-- ==== Sys2Proof/Word.lean ====
section
/-! DEFINITION. The word types of the codec: the byte of every sequence (spec/20_memory.md R50), the 16-bit word of the
checksum and of the request fields (R51), and the 32-bit pattern of a float (R55). All are unsigned (spec/00_scope.md R11). -/

namespace Sys2Proof

/-- `u8`, the unit of every sequence (R50). -/
abbrev Byte := BitVec 8

/-- `u16`: the checksum, `startRegister`, `registerCount` (R11, R51). -/
abbrev Word16 := BitVec 16

/-- `bits32`: the bit pattern of one IEEE-754 32-bit float (R22, R55). -/
abbrev Word32 := BitVec 32

end Sys2Proof
end

