-- ==== Sys2Proof/Kinds.lean ====
section
/-! DEFINITION. The small named kinds of the spec: the four formats of the opcode table, a message of one of them, why a
message is no instruction, the error kinds of a parse, its outcome, and the numbers a float pattern is read as. -/

namespace Sys2Proof

/-- The formats of spec/30_encoding.md R80 (`CMD`, `REQ8`, `RSPV`) and the format `PSEUDO` of the opcode table (R96). -/
inductive Format where
  /-- A command: an 8-bit code, then its operands (R83). -/
  | cmd
  /-- A request frame of 8 bytes (R81). -/
  | req8
  /-- A response frame of `5 + 2n` bytes (R82). -/
  | rspv
  /-- A MeterClient operation, named by the request frame it sends (R96, R166). -/
  | pseudo
  deriving DecidableEq, Repr

/-- One issued message: its format and its bytes, first byte first, with their number known at issue (R83).
DESIGN CHOICE (log 4): the format travels beside the bytes, since the spec's formats share first bytes. -/
structure Message where
  format : Format
  bytes : List Byte
  deriving DecidableEq, Repr

/-- Why a message is no instruction. -/
inductive DecodeError where
  /-- A `CMD` message of no bytes: there is no code. -/
  | emptyCommand
  /-- A command code that R95 does not list: reserved (R92). -/
  | reservedCode (code : Byte)
  /-- A listed code with operand bytes that are not its typed operands (R24: no command truncates an operand). -/
  | operandLength (code : Byte)
  /-- A `REQ8` message that has not exactly 8 bytes (R80). -/
  | requestLength
  /-- A frame whose function byte is not `0x03`: no other wire message exists (R89, R6). -/
  | functionCode (f : Byte)
  /-- A `REQ8` message whose last 16 bits are not the checksum of the other 48 (R81: they are not free). -/
  | requestChecksum
  /-- An `RSPV` message whose length is not `5 + 2n` for any `n: u16` (R82). -/
  | responseLength
  /-- A `PSEUDO` message that is none of the eight operations (R166). -/
  | noSuchOperation
  deriving DecidableEq, Repr

/-- The four error kinds of `RSP.PARSE` (spec/60_exceptions.md R180). -/
inductive ErrKind where
  | lengthMismatch
  | checksumMismatch
  | unexpectedReply
  | decodeError
  deriving DecidableEq, Repr

/-- `Ok(sequence of bits32) | Err(kind)` (spec/43_frame_decoder.md R140). -/
inductive ParseResult where
  | ok (fs : List Word32)
  | err (k : ErrKind)
  deriving DecidableEq, Repr

/-- What a 32-bit pattern is read as (R147), and the type of `ROUND`'s result (spec/44_host_sequences.md R173).
Zero with the sign kept is a number of its own: `0x80000000` is negative zero. -/
inductive Number where
  | finite (q : Rat)
  | negativeZero
  | infinity (negative : Bool)
  | nan
  deriving DecidableEq, Repr, Inhabited

end Sys2Proof
end

