-- ==== Sys2Proof/Config.lean ====
section
/-! DEFINITION. What is fixed for the machine (spec/00_scope.md R8, R9, spec/10_state.md R25) and what the spec leaves open:
the open values are constants with no body, so that no proof can know them. -/

namespace Sys2Proof.Config

/-- `POLY`, the CRC polynomial (R8). -/
def poly : Word16 := 0xA001

/-- `CRC_INIT`, the start value of every checksum (R8). -/
def crcInit : Word16 := 0xFFFF

/-- `SHIFTS_PER_BYTE` (R8). -/
def shiftsPerByte : Nat := 8

/-- `FC_READ_HOLDING`, the one function code (R8, R25). -/
def fcReadHolding : Byte := 0x03

/-- `UNIT_ADDRESS`, the address the host always passes (R9). -/
def unitAddress : Byte := 1

/-- `BANK_REGS`, the register count of every MeterClient request (R9). -/
def bankRegs : Word16 := 18

/-- `BANK_RSP_LEN`, the length MeterClient reads (R9, R164). -/
def bankRspLen : Nat := 41

/-- Reset value of `outstanding`'s address: the fixed unit address of the only host the spec describes.
DESIGN CHOICE (log 9). -/
def resetOutstandingAddress : Byte := unitAddress

/-- Reset value of `outstanding`'s count: the fixed bank size of that host. DESIGN CHOICE (log 9). -/
def resetOutstandingCount : Word16 := bankRegs

/-- FREE VALUE (log 10): the bytes the `n`-th unscripted Transport read delivers, before the read's length bound.
The spec calls them a draw: any bytes at all (R163, D17). -/
opaque transportRead : Nat → List Byte

/-- FREE VALUE (log 11): `ROUND(w, d)`, open but for the two values R173 gives (D18). -/
opaque round : Word32 → Nat → Number

/-- FREE VALUE (log 17): the nine `offset` values of the RegisterMap entries, which no source gives (R65, N8). -/
opaque registerMapOffset : Nat → Word16

end Sys2Proof.Config
end

