-- ==== Sys2Proof/Machine/Checksum.lean ====
section
/-! DEFINITION. The checksum functions of spec/41_crc.md: one shift (R110), one byte (R111), a whole message (R112), and the
bit-serial form (R113). Pure functions of their arguments (spec/00_scope.md R15). -/

namespace Sys2Proof.Machine

/-- `crc_shift`, one shift iteration: a logical right shift, then XOR with the polynomial if bit 0 was 1 (R110). -/
def crcShift (r : Word16) : Word16 := if r.getLsbD 0 then (r >>> 1) ^^^ Config.poly else r >>> 1

/-- `n` shift iterations (R111). -/
def crcShifts : Nat → Word16 → Word16
  | 0, r => r
  | n + 1, r => crcShifts n (crcShift r)

/-- `crc_byte`: the byte meets the low 8 bits of the register, then eight shifts (R111).
PRESUMED (log 15): the spec itself supplies the first step from general knowledge. -/
def crcByte (r : Word16) (b : Byte) : Word16 := crcShifts Config.shiftsPerByte (r ^^^ b.setWidth 16)

/-- `crc_byte` folded over a message, in index order, from a given register (R112, R121 (e)). -/
def crcBytes (r : Word16) : List Byte → Word16
  | [] => r
  | b :: rest => crcBytes (crcByte r b) rest

/-- `crc16`, the document's `Checksum.compute`: no final XOR, no final reflection (R112). -/
def crc16 (m : List Byte) : Word16 := crcBytes Config.crcInit m

/-- One iteration of the bit-serial form, for the message bit `b` (R113). -/
def crcSerialBit (r : Word16) (b : Bool) : Word16 :=
  if (r.getLsbD 0).xor b then (r >>> 1) ^^^ Config.poly else r >>> 1

/-- The iterations from bit `8 - n` of the byte on, `n` of them (R113). -/
def crcSerialBits : Nat → Word16 → Byte → Word16
  | 0, r, _ => r
  | n + 1, r, b => crcSerialBits n (crcSerialBit r (b.getLsbD 0)) (b >>> 1)

/-- `crc_byte_serial`: one message bit at a time, bit 0 first (R113, R56). -/
def crcByteSerial (r : Word16) (b : Byte) : Word16 := crcSerialBits 8 r b

end Sys2Proof.Machine
end

