-- ==== Sys2Proof/Machine/Operands.lean ====
section
/-! DEFINITION. Every operand form of the spec: the byte orders of the multi-byte fields (spec/20_memory.md R52 to R55), the
split of a payload into 4-byte chunks (spec/30_encoding.md R86), and the reading of a float pattern as a number
(spec/43_frame_decoder.md R147). Pure functions of their arguments (spec/00_scope.md R15). -/

namespace Sys2Proof.Machine

/-- `enc_u16_be`: the high byte first (R52). -/
def encU16be (v : Word16) : List Byte := [v.extractLsb' 8 8, v.extractLsb' 0 8]

/-- `enc_u16_le`: the low byte first (R53). -/
def encU16le (v : Word16) : List Byte := [v.extractLsb' 0 8, v.extractLsb' 8 8]

/-- The 16-bit value of a high byte and a low byte, the inverse of `encU16be` (R84). -/
def decU16be (hi lo : Byte) : Word16 := lo.setWidth 16 ||| (hi.setWidth 16 <<< 8)

/-- `dec_u16_le(t) = t[0] | (t[1] << 8)` of a 2-byte sequence (R54). It is only applied to two bytes; a byte that
is not there counts as zero, which no outcome depends on (log 21). -/
def decU16le (t : List Byte) : Word16 := (t.getD 0 0).setWidth 16 ||| ((t.getD 1 0).setWidth 16 <<< 8)

/-- `dec_f32_le(q)` of the four bytes `q[0]` to `q[3]`, lowest byte first (R55). -/
def decF32le (q0 q1 q2 q3 : Byte) : Word32 :=
  q0.setWidth 32 ||| (q1.setWidth 32 <<< 8) ||| (q2.setWidth 32 <<< 16) ||| (q3.setWidth 32 <<< 24)

/-- "each consecutive 4-byte chunk ... in order" as floats (R86, R144). A tail of fewer than 4 bytes gives no float;
`parseResponse` never reaches one. -/
def decF32s : List Byte → List Word32
  | q0 :: q1 :: q2 :: q3 :: rest => decF32le q0 q1 q2 q3 :: decF32s rest
  | _ => []

/-- The `k` low bytes of a number, the most significant first. -/
def natBytesBE : Nat → Nat → List Byte
  | 0, _ => []
  | k + 1, w => BitVec.ofNat 8 (w / 256 ^ k) :: natBytesBE k w

/-- The significand of a pattern with exponent field `e` and fraction field `f`: the hidden bit is 0 when `e` is 0 (R147). -/
def floatSignificand (e f : Nat) : Nat := if e = 0 then f else 2 ^ 23 + f

/-- The magnitude of a finite pattern: significand times `2 ^ (max e 1 - 150)` (R147). -/
def floatMagnitude (e f : Nat) : Rat :=
  let x := max e 1
  if 150 ≤ x then mkRat (floatSignificand e f * 2 ^ (x - 150)) 1 else mkRat (floatSignificand e f) (2 ^ (150 - x))

/-- A `bits32` pattern read as a number (R147). The block never does this: it hands over raw bits (R148). -/
def floatValue (w : Word32) : Number :=
  let e := (w.extractLsb' 23 8).toNat
  let f := (w.extractLsb' 0 23).toNat
  if e = 255 then (if f = 0 then .infinity w.msb else .nan)
  else if e = 0 ∧ f = 0 ∧ w.msb = true then .negativeZero
  else .finite (if w.msb then - floatMagnitude e f else floatMagnitude e f)

end Sys2Proof.Machine
end

