-- ==== Sys2Proof/Machine/Frames.lean ====
section
/-! DEFINITION. The pure functions of the frame codec: `build_request` (spec/42_frame_encoder.md R130), `parse_response`
(spec/43_frame_decoder.md R140) and the bytes of a response frame (spec/20_memory.md R64). -/

namespace Sys2Proof.Machine

/-- The first six bytes of a request (R130, R63). -/
def requestHead (a : Byte) (start count : Word16) : List Byte :=
  [a, Config.fcReadHolding] ++ encU16be start ++ encU16be count

/-- `build_request`: head, then its checksum low byte first (R130). It checks nothing (R133). -/
def buildRequest (a : Byte) (start count : Word16) : List Byte :=
  requestHead a start count ++ encU16le (crc16 (requestHead a start count))

/-- A response frame: address, function `0x03`, `byteCount`, payload, checksum low byte first (R64, R82). -/
def responseFrame (a byteCount : Byte) (payload : List Byte) (c : Word16) : List Byte :=
  [a, Config.fcReadHolding, byteCount] ++ payload ++ encU16le c

/-- `3 + en × 2 + 2`, in the naturals, never wrapping (R141, R151). -/
def expectedLength (en : Word16) : Nat := 3 + en.toNat * 2 + 2

/-- `raw[0:-2]`, all but the last two bytes (spec/00_scope.md R13, R17). -/
def frameBody (raw : List Byte) : List Byte := raw.take (raw.length - 2)

/-- `raw[-2:]`, the last two bytes (R13, R17). -/
def frameTrailer (raw : List Byte) : List Byte := raw.drop (raw.length - 2)

/-- `raw[3:-2]`, the bytes between `byteCount` and the checksum (R13, R17). -/
def framePayload (raw : List Byte) : List Byte := (frameBody raw).drop 3

/-- `parse_response`: length, checksum, echo, payload length, in this order, the first failure ending it (R140, R150). -/
def parseResponse (raw : List Byte) (ea ef : Byte) (en : Word16) : ParseResult :=
  if raw.length ≠ expectedLength en then .err .lengthMismatch
  else if crc16 (frameBody raw) ≠ decU16le (frameTrailer raw) then .err .checksumMismatch
  else if raw[0]? ≠ some ea ∨ raw[1]? ≠ some ef then .err .unexpectedReply
  else if (framePayload raw).length % 4 ≠ 0 then .err .decodeError
  else .ok (decF32s (framePayload raw))

end Sys2Proof.Machine
end

