-- ==== Sys2Proof/Syntax.lean ====
section
/-! DEFINITION. The instructions: one constructor for each of the 17 rows of spec/opcode_table.json, with the operands
of spec/30_encoding.md R95 (commands), R81 and R82 (wire frames) and R96 (pseudo-instructions). -/

namespace Sys2Proof

/-- One constructor per row of the opcode table, in the table's order. Operands are typed: a value outside its width
has no representation (spec/10_state.md R24). -/
inductive Instr where
  /-- `CRC.INIT`, code `0x01` (R114). -/
  | crcInit
  /-- `CRC.UPDATE b`, code `0x02` (R115). -/
  | crcUpdate (b : Byte)
  /-- `CRC.COMPUTE m`, code `0x03` (R116). -/
  | crcCompute (m : List Byte)
  /-- `CRC.EMIT`, code `0x04` (R117). -/
  | crcEmit
  /-- `CRC.CHECK m`, code `0x05` (R118). -/
  | crcCheck (m : List Byte)
  /-- `REQ.BUILD a, s, n`, code `0x10` (R131). -/
  | reqBuild (a : Byte) (start count : Word16)
  /-- `RSP.PARSE raw, ea, ef, en`, code `0x20` (R145). -/
  | rspParse (raw : List Byte) (ea ef : Byte) (en : Word16)
  /-- The request frame on the wire, format `REQ8` (R81). Its checksum is no operand: it is a function of the
  other 48 bits (R130). -/
  | readRequest (a : Byte) (start count : Word16)
  /-- The response frame on the wire, format `RSPV` (R82): address, `byteCount`, payload and checksum as received;
  the function byte is `0x03`. -/
  | readResponse (a byteCount : Byte) (payload : List Byte) (c : Word16)
  /-- `getPower` (R165). -/
  | getPower
  /-- `getCurrent` (R165). -/
  | getCurrent
  /-- `getVoltage` (R165). -/
  | getVoltage
  /-- `getFrequency` (R165). -/
  | getFrequency
  /-- `getPowerFactor` (R165). -/
  | getPowerFactor
  /-- `getAnnualPowerConsumption` (R165). -/
  | getAnnualPowerConsumption
  /-- `getReactivePower` (R165). -/
  | getReactivePower
  /-- `getUptime` (R165). -/
  | getUptime
  deriving DecidableEq, Repr

end Sys2Proof
end

