-- ==== Sys2Proof/Decode.lean ====
section
/-! DEFINITION. The decoder, total on any message and refusing by name, and the encoder, both written from the encodings of
spec/30_encoding.md (R80 to R96). The codes and the frames are the spec's; how a command's operands follow its code as bytes is
fixed by no source (R83, D3) and is the model's choice (log 3). -/

namespace Sys2Proof

open Sys2Proof.Machine

/-! ## The command codes (R95) -/

def codeCrcInit : Byte := 0x01
def codeCrcUpdate : Byte := 0x02
def codeCrcCompute : Byte := 0x03
def codeCrcEmit : Byte := 0x04
def codeCrcCheck : Byte := 0x05
def codeReqBuild : Byte := 0x10
def codeRspParse : Byte := 0x20

/-! ## The pseudo-instructions (R96) -/

/-- The eight operations by the request frame each puts on the wire (R166, R134), and a selector byte that tells the
operations of one frame apart in the table's order. DESIGN CHOICE (log 5): the spec gives them no code, and `getPower`
and `getCurrent` share a frame. -/
def pseudoTable : List (List Byte × Instr) :=
  [([0x01, 0x03, 0x00, 0x00, 0x00, 0x12, 0xC5, 0xC7, 0], .getPower),
   ([0x01, 0x03, 0x00, 0x00, 0x00, 0x12, 0xC5, 0xC7, 1], .getCurrent),
   ([0x01, 0x03, 0x00, 0x02, 0x00, 0x12, 0x64, 0x07, 0], .getVoltage),
   ([0x01, 0x03, 0x00, 0x04, 0x00, 0x12, 0x84, 0x06, 0], .getFrequency),
   ([0x01, 0x03, 0x00, 0x06, 0x00, 0x12, 0x25, 0xC6, 0], .getPowerFactor),
   ([0x01, 0x03, 0x00, 0x08, 0x00, 0x12, 0x44, 0x05, 0], .getAnnualPowerConsumption),
   ([0x01, 0x03, 0x00, 0x0E, 0x00, 0x12, 0xA4, 0x04, 0], .getReactivePower),
   ([0x01, 0x03, 0x00, 0x10, 0x00, 0x12, 0xC4, 0x02, 0], .getUptime)]

/-! ## Decoding, one function per format -/

/-- A command with no operands. -/
def decodeBare (code : Byte) (i : Instr) (ops : List Byte) : Except DecodeError Instr :=
  match ops with
  | [] => .ok i
  | _ :: _ => .error (.operandLength code)

/-- `CRC.UPDATE b`: one byte (R95). -/
def decodeUpdate (ops : List Byte) : Except DecodeError Instr :=
  match ops with
  | [b] => .ok (.crcUpdate b)
  | _ => .error (.operandLength codeCrcUpdate)

/-- `REQ.BUILD a, s, n`: a byte and two 16-bit operands, high byte first (R95; log 3). -/
def decodeBuild (ops : List Byte) : Except DecodeError Instr :=
  match ops with
  | [a, s1, s0, n1, n0] => .ok (.reqBuild a (decU16be s1 s0) (decU16be n1 n0))
  | _ => .error (.operandLength codeReqBuild)

/-- `RSP.PARSE raw, ea, ef, en`: the last four bytes are `ea`, `ef` and `en` high byte first, all before them is `raw`
(R95; log 3). -/
def decodeParse (ops : List Byte) : Except DecodeError Instr :=
  match ops.drop (ops.length - 4) with
  | [ea, ef, n1, n0] => .ok (.rspParse (ops.take (ops.length - 4)) ea ef (decU16be n1 n0))
  | _ => .error (.operandLength codeRspParse)

/-- Format `CMD` (R83, R95); a code that is not listed is refused, never a no-op (R92). -/
def decodeCmd (bytes : List Byte) : Except DecodeError Instr :=
  match bytes with
  | [] => .error .emptyCommand
  | code :: ops =>
    if code = codeCrcInit then decodeBare code .crcInit ops
    else if code = codeCrcUpdate then decodeUpdate ops
    else if code = codeCrcCompute then .ok (.crcCompute ops)
    else if code = codeCrcEmit then decodeBare code .crcEmit ops
    else if code = codeCrcCheck then .ok (.crcCheck ops)
    else if code = codeReqBuild then decodeBuild ops
    else if code = codeRspParse then decodeParse ops
    else .error (.reservedCode code)

/-- Format `REQ8` (R81): 8 bytes, function byte `0x03`, the checksum that of the first six bytes. -/
def decodeRequest (bytes : List Byte) : Except DecodeError Instr :=
  match bytes with
  | [a, f, s1, s0, n1, n0, c0, c1] =>
    if f ≠ Config.fcReadHolding then .error (.functionCode f)
    else if crc16 [a, f, s1, s0, n1, n0] ≠ decU16le [c0, c1] then .error .requestChecksum
    else .ok (.readRequest a (decU16be s1 s0) (decU16be n1 n0))
  | _ => .error .requestLength

/-- Format `RSPV` (R82): three header bytes with function byte `0x03`, `2n` payload bytes, two checksum bytes. The
checksum and `byteCount` may be anything: the block judges the one and skips the other (R87, R142). -/
def decodeResponse (bytes : List Byte) : Except DecodeError Instr :=
  match bytes with
  | a :: f :: b :: rest =>
    if f ≠ Config.fcReadHolding then .error (.functionCode f)
    else if rest.length < 2 ∨ rest.length % 2 ≠ 0 ∨ 131072 < rest.length then .error .responseLength
    else .ok (.readResponse a b (rest.take (rest.length - 2)) (decU16le (rest.drop (rest.length - 2))))
  | _ => .error .responseLength

/-- Format `PSEUDO` (R96, R166). -/
def decodePseudo (bytes : List Byte) : Except DecodeError Instr :=
  match pseudoTable.lookup bytes with
  | some i => .ok i
  | none => .error .noSuchOperation

/-- The decoder: total on every message. -/
def decode (m : Message) : Except DecodeError Instr :=
  match m.format with
  | .cmd => decodeCmd m.bytes
  | .req8 => decodeRequest m.bytes
  | .rspv => decodeResponse m.bytes
  | .pseudo => decodePseudo m.bytes

/-! ## Encoding -/

/-- A `CMD` message: the code, then the operand bytes (R83). -/
def cmdMessage (code : Byte) (ops : List Byte) : Message := ⟨.cmd, code :: ops⟩

/-- A `PSEUDO` message: the frame of R166 for `start`, and the selector byte (log 5). -/
def pseudoMessage (start : Word16) (selector : Byte) : Message :=
  ⟨.pseudo, buildRequest Config.unitAddress start Config.bankRegs ++ [selector]⟩

/-- The message of an instruction, from the same encodings. -/
def encode (i : Instr) : Message :=
  match i with
  | .crcInit => cmdMessage codeCrcInit []
  | .crcUpdate b => cmdMessage codeCrcUpdate [b]
  | .crcCompute m => cmdMessage codeCrcCompute m
  | .crcEmit => cmdMessage codeCrcEmit []
  | .crcCheck m => cmdMessage codeCrcCheck m
  | .reqBuild a start count => cmdMessage codeReqBuild ([a] ++ encU16be start ++ encU16be count)
  | .rspParse raw ea ef en => cmdMessage codeRspParse (raw ++ ([ea, ef] ++ encU16be en))
  | .readRequest a start count => ⟨.req8, buildRequest a start count⟩
  | .readResponse a byteCount payload c => ⟨.rspv, responseFrame a byteCount payload c⟩
  | .getPower => pseudoMessage 0 0
  | .getCurrent => pseudoMessage 0 1
  | .getVoltage => pseudoMessage 2 0
  | .getFrequency => pseudoMessage 4 0
  | .getPowerFactor => pseudoMessage 6 0
  | .getAnnualPowerConsumption => pseudoMessage 8 0
  | .getReactivePower => pseudoMessage 14 0
  | .getUptime => pseudoMessage 16 0

/-! ## The opcode table's words -/

/-- How many operand bytes of zeros a command word of the table lacks: the typed operands that follow its code, a
sequence operand being empty (R95). -/
def zeroOperandBytes (code : Byte) : Nat :=
  if code = codeCrcUpdate then 1 else if code = codeReqBuild then 5 else if code = codeRspParse then 4 else 0

/-- The message of a table word: its bytes are those of the number `w`, the first byte the most significant (R81: byte
0 of a frame is bits 63:56), followed by operand bytes of zeros. A word of 8 bits is a command code, one of 24 bits is a
response's header, one of 64 bits is a request frame, which names an operation where R166 lists it (log 4, log 5). -/
def tableMessage (nbits w : Nat) : Message :=
  let bytes := natBytesBE (nbits / 8) w
  if nbits = 64 then
    if (pseudoTable.lookup (bytes ++ [0])).isSome then ⟨.pseudo, bytes ++ [0]⟩ else ⟨.req8, bytes⟩
  else if nbits = 24 then ⟨.rspv, bytes ++ [0, 0]⟩
  else ⟨.cmd, bytes ++ List.replicate (zeroOperandBytes (bytes.headD 0)) 0⟩

/-- The instruction the decoder reads from a word of the opcode table. -/
def decodeTableWord (nbits w : Nat) : Option Instr :=
  match decode (tableMessage nbits w) with
  | .ok i => some i
  | .error _ => none

end Sys2Proof
end

