-- ==== Sys2Proof/Machine/State.lean ====
section
/-! DEFINITION. The state of the machine as plain data: the block's registers and latches (spec/10_state.md R20 to R26), and of the
system around the block what the wire formats and the MeterClient operations act on (spec/44_host_sequences.md). The block has
no addressed memory, no program counter and no mode (R14, R27, R29, R30). -/

namespace Sys2Proof.Machine

/-- The Transport handle of the client (R162, R170, R186). -/
inductive Link where
  /-- A client is constructed and its `open` succeeded. -/
  | opened
  /-- `open` answered ConnectionError: the client's usable lifetime is over. -/
  | failed
  /-- The client was torn down and the handle released. -/
  | released
  deriving DecidableEq, Repr

/-- What the last command, operation or host access returned (`return v`, spec/00_scope.md R14). -/
inductive Result where
  /-- Nothing was returned. -/
  | none
  /-- A `u16`: `CRC.COMPUTE`, or registers `CRC` and `NF`. -/
  | word (v : Word16)
  /-- A `u8`: register `STATUS`. -/
  | byte (v : Byte)
  /-- A byte sequence: `CRC.EMIT`, `REQ.BUILD`, or register `TXF`. -/
  | bytes (bs : List Byte)
  /-- A Boolean: `CRC.CHECK`. -/
  | bool (b : Bool)
  /-- `Ok(fs)` of `RSP.PARSE`, or register `FOUT`. -/
  | floats (fs : List Word32)
  /-- One element `FOUT[i]`. -/
  | float (w : Word32)
  /-- `Err(k)` of `RSP.PARSE`, or the failure of an operation. -/
  | error (k : ErrKind)
  /-- The rounded number of an operation. -/
  | number (n : Number)
  /-- `ConnectionError` of `Transport.open` (R186). -/
  | connectionError
  /-- `describe(index)`: name, and unit where the name has one (R167). -/
  | label (name : String) (unit : Option String)
  deriving DecidableEq, Repr

/-- One thing the host or the environment does to the machine, in the host's program order (R67). -/
inductive HostEvent where
  /-- The host issues a command, a wire frame crosses, or the host runs an operation. -/
  | issue (m : Message)
  /-- Two hosts issue at once: no meaning (R67, R215). -/
  | issueTogether (m n : Message)
  /-- The host reads a register by its number (R26). -/
  | readRegister (number : Nat)
  /-- The host reads `FOUT[index]` (R218). -/
  | readFloat (index : Nat)
  /-- The block is reset (R210). -/
  | resetBlock
  /-- The environment fixes what a coming Transport read returns (R163). -/
  | arrive (raw : List Byte)
  /-- A client is constructed and its Transport opens, or answers ConnectionError (R162). -/
  | openClient (succeeds : Bool)
  /-- The client is torn down (R162). -/
  | closeClient
  /-- `RegisterMap.describe(index)` (R168). -/
  | describe (index : Nat)
  deriving DecidableEq, Repr

/-- Why the machine stops with a fault. -/
inductive Fault where
  /-- Raised by a host read of `TXF` while `TXV` is 0: the latch holds no value (R21, U5). Safe. -/
  | txfNoValue
  /-- Raised by a host read of `FOUT[i]` with `i` at or beyond `NF` (R218, U6). Safe. -/
  | foutNoValue
  /-- Raised by a Transport write, so by a request frame or an operation, when the client has no open Transport: its usable
  lifetime is over (R162, R186). Safe. -/
  | clientUnusable
  deriving DecidableEq, Repr

/-- Why the machine gives no meaning. -/
inductive Refusal where
  /-- Raised by `exec` for an instruction without a meaning yet. Safe. -/
  | notModelled (mnemonic : String)
  /-- Raised by the step for a message that is no instruction, reserved command codes among them (R92). Safe. -/
  | undecodable (why : DecodeError)
  /-- Raised by the step for two hosts at once (R67, D16). Safe. -/
  | twoHosts
  /-- Raised by a host read of a register number that R26 does not list. Safe. -/
  | noSuchRegister (number : Nat)
  /-- Raised by `describe` outside `[0, 8]` (R168, U11). Safe. -/
  | describeRange (index : Nat)
  deriving DecidableEq, Repr

/-- The whole state. -/
structure State where
  /-- `CRC`, the running CRC register (R20). -/
  crc : Word16
  /-- `TXF`, the request frame latch, 8 bytes in wire order (R21). -/
  txf : List Byte
  /-- `TXV`, the latch's valid bit (R21). -/
  txv : Bool
  /-- `FOUT`, the float result file; `NF` is its length (R22). -/
  fout : List Word32
  /-- `RV`, its valid bit (R22). -/
  rv : Bool
  /-- `ERR`, the error code register (R23). -/
  err : BitVec 3
  /-- The host's Transport handle (R162). -/
  link : Link
  /-- The frames the Transport has written, oldest first (R161, R165). -/
  wire : List (List Byte)
  /-- What coming Transport reads return, next first, where the environment has fixed it (R163). -/
  arrivals : List (List Byte)
  /-- The model's own counter of the reads that were a free draw (log 10). -/
  draws : Nat
  /-- The unit address of the last request written, which the host parses the reply with (R220). -/
  outstandingAddress : Byte
  /-- The register count of the last request written (R220). -/
  outstandingCount : Word16
  /-- What the last command, operation or access returned (R14; log 6). -/
  result : Result
  /-- What the host and the environment do next, in program order (R27, R67; log 2). -/
  inbox : List HostEvent
  deriving DecidableEq, Repr

/-- The state right after reset: the block as R34 says; around it a client with an open Transport and nothing yet on the
wire (log 7, log 9, log 12). -/
def State.reset : State where
  crc := 0xFFFF
  txf := [0, 0, 0, 0, 0, 0, 0, 0]
  txv := false
  fout := []
  rv := false
  err := 0
  link := .opened
  wire := []
  arrivals := []
  draws := 0
  outstandingAddress := Config.resetOutstandingAddress
  outstandingCount := Config.resetOutstandingCount
  result := .none
  inbox := []

end Sys2Proof.Machine
end

