-- ==== Sys2Proof/Machine/Flags.lean ====
section
/-! DEFINITION. The status bits: the codes of the error kinds (spec/60_exceptions.md R180), register `STATUS` and register `NF`
(spec/10_state.md R26). The block has no arithmetic flags (R28). -/

namespace Sys2Proof.Machine

/-- `code(k)`, the value of `ERR` for an error kind (R23, R180). -/
def errCode (k : ErrKind) : BitVec 3 :=
  match k with
  | .lengthMismatch => 1
  | .checksumMismatch => 2
  | .unexpectedReply => 3
  | .decodeError => 4

/-- Register 1, `STATUS`: bit 0 `TXV`, bit 1 `RV`, bits 4:2 `ERR`, bits 7:5 zero (R26). -/
def State.status (s : State) : Byte := 0#3 ++ s.err ++ BitVec.ofBool s.rv ++ BitVec.ofBool s.txv

/-- Register 2, `NF = len(FOUT)`, 16 bits (R22, R26). -/
def State.nf (s : State) : Word16 := BitVec.ofNat 16 s.fout.length

end Sys2Proof.Machine
end

