-- ==== Sys2Proof/Machine/Ops.lean ====
section
/-! DEFINITION. The shared operations on the state: the writes of each register, a successful parse, TAKING AN ERROR (the block's
only exception, spec/60_exceptions.md R185; there is no return from it, R190), the two big commands, and the Transport. -/

namespace Sys2Proof.Machine

/-- Hands a value back to the host (R14; log 6). -/
def State.returns (s : State) (r : Result) : State := { s with result := r }

/-- `CRC <- v` (R20). -/
def State.setCrc (s : State) (v : Word16) : State := { s with crc := v }

/-- All 8 bytes of `TXF` together, and `TXV <- 1` (R131). -/
def State.latchRequest (s : State) (frame : List Byte) : State := { s with txf := frame, txv := true }

/-- `Ok(fs)`: `FOUT <- fs; RV <- 1; ERR <- 0` (R145). -/
def State.deliver (s : State) (fs : List Word32) : State := { s with fout := fs, rv := true, err := 0 }

/-- The entry of an error of kind `k`: `ERR <- code(k); RV <- 0; FOUT <- []`. Nothing is saved, no mode changes and no
control goes anywhere (R185). -/
def State.takeError (s : State) (k : ErrKind) : State := { s with fout := [], rv := false, err := errCode k }

/-- The effect of `REQ.BUILD a, s, n` (R131). -/
def State.buildFrame (s : State) (a : Byte) (start count : Word16) : State :=
  let f := buildRequest a start count
  ((s.latchRequest f).setCrc (crc16 (f.take 6))).returns (.bytes f)

/-- The checksum step of a parse: it runs only once the length check has passed (R145). -/
def State.parseChecksum (s : State) (raw : List Byte) (en : Word16) : State :=
  if raw.length = expectedLength en then s.setCrc (crc16 (frameBody raw)) else s

/-- What an outcome of `parse_response` does to the latches and returns (R145, R185). -/
def State.finishParse (s : State) (r : ParseResult) : State :=
  match r with
  | .ok fs => (s.deliver fs).returns (.floats fs)
  | .err k => (s.takeError k).returns (.error k)

/-- The effect of `RSP.PARSE raw, ea, ef, en` (R145). -/
def State.parseFrame (s : State) (raw : List Byte) (ea ef : Byte) (en : Word16) : State :=
  (s.parseChecksum raw en).finishParse (parseResponse raw ea ef en)

/-- `Transport.write(bytes)` puts a frame on the wire (R161). -/
def State.transportWrite (s : State) (frame : List Byte) : State := { s with wire := s.wire ++ [frame] }

/-- The host keeps the operands it built the request with, to parse the reply with (R220). -/
def State.expectReply (s : State) (a : Byte) (count : Word16) : State :=
  { s with outstandingAddress := a, outstandingCount := count }

/-- Build a request and write the latched frame: the first half of an exchange (R160, R164). -/
def State.sendRequest (s : State) (a : Byte) (start count : Word16) : State :=
  let t := s.buildFrame a start count
  (t.transportWrite t.txf).expectReply a count

/-- `Transport.read(exactLength)`: what the environment has fixed, else a free draw; never more than `exactLength`
bytes (R161, R163; log 10). -/
def State.readBytes (s : State) (exactLength : Nat) : List Byte :=
  match s.arrivals with
  | raw :: _ => raw.take exactLength
  | [] => (Config.transportRead s.draws).take exactLength

/-- What a Transport read uses up. -/
def State.afterRead (s : State) : State :=
  match s.arrivals with
  | _ :: rest => { s with arrivals := rest }
  | [] => { s with draws := s.draws + 1 }

/-- An instruction that writes to the Transport runs only with an open one (R162, R186; log 12). -/
def State.withClient (s : State) (t : State) : Host.Outcome State Fault Refusal :=
  if s.link = .opened then .next t else .fault .clientUnusable

end Sys2Proof.Machine
end

