-- ==== Sys2Proof/Machine/CodecFamily.lean ====
section
/-! DEFINITION. The meanings of the two codec commands (spec/42_frame_encoder.md R131, spec/43_frame_decoder.md R145) and of the
two wire formats they produce and consume (spec/30_encoding.md R81, R82; log 8, log 9). -/

namespace Sys2Proof.Machine

/-- `REQ.BUILD a, s, n` (R131). -/
def execReqBuild (a : Byte) (start count : Word16) (s : State) : Host.Outcome State Fault Refusal :=
  .next (s.buildFrame a start count)

/-- `RSP.PARSE raw, ea, ef, en` (R145). -/
def execRspParse (raw : List Byte) (ea ef : Byte) (en : Word16) (s : State) : Host.Outcome State Fault Refusal :=
  .next (s.parseFrame raw ea ef en)

/-- A request frame crosses the wire: `build_request` makes it (R130), and the host writes the latched frame to the
Transport (R161). `write` returns nothing. DESIGN CHOICE (log 8). -/
def execReadRequest (a : Byte) (start count : Word16) (s : State) : Host.Outcome State Fault Refusal :=
  s.withClient ((s.sendRequest a start count).returns .none)

/-- A response frame reaches the block: `parse_response` of its bytes (R140), through `RSP.PARSE` with the operands of the
request written last (R220) and function code 3. DESIGN CHOICE (log 9). -/
def execReadResponse (a byteCount : Byte) (payload : List Byte) (c : Word16) (s : State) :
    Host.Outcome State Fault Refusal :=
  .next (s.parseFrame (responseFrame a byteCount payload c) s.outstandingAddress Config.fcReadHolding
    s.outstandingCount)

end Sys2Proof.Machine
end

