-- ==== Sys2Proof/Machine/CrcFamily.lean ====
section
/-! DEFINITION. The meanings of the five checksum commands (spec/41_crc.md R114 to R118). All are total (R199). -/

namespace Sys2Proof.Machine

/-- `CRC.INIT`: `CRC <- 0xFFFF` (R114). -/
def execCrcInit (s : State) : Host.Outcome State Fault Refusal :=
  .next ((s.setCrc Config.crcInit).returns .none)

/-- `CRC.UPDATE b`: `CRC <- crc_byte(CRC, b)` (R115). -/
def execCrcUpdate (b : Byte) (s : State) : Host.Outcome State Fault Refusal :=
  .next ((s.setCrc (crcByte s.crc b)).returns .none)

/-- `CRC.COMPUTE m`: `CRC <- crc16(m)`, returned (R116). -/
def execCrcCompute (m : List Byte) (s : State) : Host.Outcome State Fault Refusal :=
  .next ((s.setCrc (crc16 m)).returns (.word (crc16 m)))

/-- `CRC.EMIT`: returns `CRC` low byte first and writes nothing (R117). -/
def execCrcEmit (s : State) : Host.Outcome State Fault Refusal :=
  .next (s.returns (.bytes (encU16le s.crc)))

/-- `CRC.CHECK m`: `CRC <- crc16(m)`, and whether it is zero (R118). -/
def execCrcCheck (m : List Byte) (s : State) : Host.Outcome State Fault Refusal :=
  .next ((s.setCrc (crc16 m)).returns (.bool (crc16 m == 0)))

end Sys2Proof.Machine
end

