-- ==== Sys2Proof/Machine/MeterClient.lean ====
section
/-! DEFINITION. The meanings of the eight MeterClient operations, the pseudo-instructions (spec/44_host_sequences.md R164 to R166),
over one shared sequence; and the RegisterMap (R167, R168). -/

namespace Sys2Proof.Machine

/-- `ROUND(w, d)`: the two values R173 gives, and a free value everywhere else (D18; log 11). -/
def roundFloat (w : Word32) (d : Nat) : Number :=
  if w = 0x449A5000 ∧ d = 3 then .finite (mkRat 12345 10)
  else if w = 0x40D66666 ∧ d = 3 then .finite (mkRat 67 10)
  else Config.round w d

/-- What an operation returns from a parse: the rounded element, or the failure, never a default number (R164, R169). A
successful parse of the bank has 9 elements, so the element is there (R149; log 21). -/
def measured (r : ParseResult) (index decimals : Nat) : Result :=
  match r with
  | .ok fs => (fs[index]?).elim .none (fun w => .number (roundFloat w decimals))
  | .err k => .error k

/-- The state once the request is on the wire. -/
def State.requested (s : State) (start : Word16) : State :=
  s.sendRequest Config.unitAddress start Config.bankRegs

/-- What the block makes of an operation's reply (R164). -/
def bankParse (raw : List Byte) : ParseResult :=
  parseResponse raw Config.unitAddress Config.fcReadHolding Config.bankRegs

/-- The sequence of every operation: build and write the request, read 41 bytes, parse, select, round (R164). -/
def State.measure (s : State) (start : Word16) (index decimals : Nat) : State :=
  let sent := s.requested start
  let raw := sent.readBytes Config.bankRspLen
  (sent.afterRead.parseFrame raw Config.unitAddress Config.fcReadHolding Config.bankRegs).returns
    (measured (bankParse raw) index decimals)

/-- `getPower`: start register 0, index 0, 3 decimals (R165). -/
def execGetPower (s : State) : Host.Outcome State Fault Refusal := s.withClient (s.measure 0 0 3)

/-- `getCurrent`: start register 0, index 1, 3 decimals (R165). -/
def execGetCurrent (s : State) : Host.Outcome State Fault Refusal := s.withClient (s.measure 0 1 3)

/-- `getVoltage`: start register 2, index 1, 1 decimal (R165). -/
def execGetVoltage (s : State) : Host.Outcome State Fault Refusal := s.withClient (s.measure 2 1 1)

/-- `getFrequency`: start register 4, index 1, 2 decimals (R165). -/
def execGetFrequency (s : State) : Host.Outcome State Fault Refusal := s.withClient (s.measure 4 1 2)

/-- `getPowerFactor`: start register 6, index 1, 4 decimals (R165). -/
def execGetPowerFactor (s : State) : Host.Outcome State Fault Refusal := s.withClient (s.measure 6 1 4)

/-- `getAnnualPowerConsumption`: start register 8, index 1, 2 decimals (R165). -/
def execGetAnnualPowerConsumption (s : State) : Host.Outcome State Fault Refusal := s.withClient (s.measure 8 1 2)

/-- `getReactivePower`: start register 14, index 0, 3 decimals (R165). -/
def execGetReactivePower (s : State) : Host.Outcome State Fault Refusal := s.withClient (s.measure 14 0 3)

/-- `getUptime`: start register 16, index 0, 3 decimals (R165). -/
def execGetUptime (s : State) : Host.Outcome State Fault Refusal := s.withClient (s.measure 16 0 3)

/-- The nine quantities, index 0 to 8, as name and unit: the unit is the text in parentheses, and the power factor has
none (R167). -/
def registerMap : List (String × Option String) :=
  [("Active Power", some "W"), ("RMS Current", some "A"), ("Voltage RMS", some "V"), ("Frequency", some "Hz"),
   ("Power Factor", none), ("Annual Power", some "KWH"), ("Active Power", some "KWH, cumulative"),
   ("Reactive Power", some "KWH"), ("Load Time", some "mins")]

/-- The `offset` of a RegisterMap entry: a free value (R65, R167, N8; log 17). -/
def registerMapOffset (index : Nat) : Word16 := Config.registerMapOffset index

end Sys2Proof.Machine
end

