-- ==== Sys2Proof/Machine/Dispatch.lean ====
section
/-! DEFINITION. The dispatch: one arm per instruction, each one call of its meaning. -/

namespace Sys2Proof.Machine

def exec (i : Instr) (s : State) : Host.Outcome State Fault Refusal :=
  match i with
  | .crcInit => Sys2Proof.Machine.execCrcInit s
  | .crcUpdate b => Sys2Proof.Machine.execCrcUpdate b s
  | .crcCompute m => Sys2Proof.Machine.execCrcCompute m s
  | .crcEmit => Sys2Proof.Machine.execCrcEmit s
  | .crcCheck m => Sys2Proof.Machine.execCrcCheck m s
  | .reqBuild a start count => Sys2Proof.Machine.execReqBuild a start count s
  | .rspParse raw ea ef en => Sys2Proof.Machine.execRspParse raw ea ef en s
  | .readRequest a start count => Sys2Proof.Machine.execReadRequest a start count s
  | .readResponse a byteCount payload c => Sys2Proof.Machine.execReadResponse a byteCount payload c s
  | .getPower => Sys2Proof.Machine.execGetPower s
  | .getCurrent => Sys2Proof.Machine.execGetCurrent s
  | .getVoltage => Sys2Proof.Machine.execGetVoltage s
  | .getFrequency => Sys2Proof.Machine.execGetFrequency s
  | .getPowerFactor => Sys2Proof.Machine.execGetPowerFactor s
  | .getAnnualPowerConsumption => Sys2Proof.Machine.execGetAnnualPowerConsumption s
  | .getReactivePower => Sys2Proof.Machine.execGetReactivePower s
  | .getUptime => Sys2Proof.Machine.execGetUptime s

end Sys2Proof.Machine
end

