-- ==== Sys2Proof/Machine/HostPort.lean ====
section
/-! DEFINITION. What the host and the environment can do to the machine besides issuing instructions: reading registers by number
(spec/10_state.md R26), reset (spec/70_reset_and_hazards.md R210), the client's construction and teardown and the bytes a coming
read returns (spec/44_host_sequences.md R162, R163), and the labelling table (R168). The step hands each event to `hostEvent`. -/

namespace Sys2Proof.Machine

/-- A message is decoded and run; what is no instruction is refused by name (R92, R200). -/
def issueMessage (m : Message) (s : State) : Host.Outcome State Fault Refusal :=
  match decode m with
  | .ok i => exec i s
  | .error why => .refused (.undecodable why)

/-- A host read of a register by number, without side effect on the block (R26, R61). `TXF` faults while `TXV` is 0
(R21); a number the table does not list is refused (log 13). -/
def readRegister (number : Nat) (s : State) : Host.Outcome State Fault Refusal :=
  match number with
  | 0 => .next (s.returns (.word s.crc))
  | 1 => .next (s.returns (.byte s.status))
  | 2 => .next (s.returns (.word s.nf))
  | 3 => if s.txv then .next (s.returns (.bytes s.txf)) else .fault .txfNoValue
  | 4 => .next (s.returns (.floats s.fout))
  | k + 5 => .refused (.noSuchRegister (k + 5))

/-- A host read of `FOUT[index]`: a fault where there is no element, never zero (R218). -/
def readFloat (index : Nat) (s : State) : Host.Outcome State Fault Refusal :=
  match s.fout[index]? with
  | some w => .next (s.returns (.float w))
  | none => .fault .foutNoValue

/-- Reset of the block to the values of R34 (R210). The system around the block keeps what it has (log 20). -/
def State.resetBlock (s : State) : State :=
  { s with
    crc := State.reset.crc, txf := State.reset.txf, txv := State.reset.txv, fout := State.reset.fout,
    rv := State.reset.rv, err := State.reset.err, result := .none }

/-- The environment fixes what one coming Transport read returns (R163). -/
def State.arrive (s : State) (raw : List Byte) : State := { s with arrivals := s.arrivals ++ [raw] }

/-- A client is constructed: `Transport.open` succeeds, or answers ConnectionError, which is fatal (R162, R186). -/
def State.openClient (s : State) (succeeds : Bool) : State :=
  if succeeds then { s with link := .opened, result := .none }
  else { s with link := .failed, result := .connectionError }

/-- The client is torn down and its handle released (R162). -/
def State.closeClient (s : State) : State := { s with link := .released, result := .none }

/-- `RegisterMap.describe(index)`; outside `[0, 8]` it is refused (R168, U11). -/
def describe (index : Nat) (s : State) : Host.Outcome State Fault Refusal :=
  match registerMap[index]? with
  | some (name, unit) => .next (s.returns (.label name unit))
  | none => .refused (.describeRange index)

/-- One event, on the state from which it has been taken. -/
def hostEvent (e : HostEvent) (s : State) : Host.Outcome State Fault Refusal :=
  match e with
  | .issue m => issueMessage m s
  | .issueTogether _ _ => .refused .twoHosts
  | .readRegister number => readRegister number s
  | .readFloat index => readFloat index s
  | .resetBlock => .next s.resetBlock
  | .arrive raw => .next (s.arrive raw)
  | .openClient succeeds => .next (s.openClient succeeds)
  | .closeClient => .next s.closeClient
  | .describe index => describe index s

/-- What is left in the host's program order. -/
def State.withInbox (s : State) (rest : List HostEvent) : State := { s with inbox := rest }

/-- The host's next event is taken from its program order; with none waiting the block stays ready for a command and
nothing changes (R27, R198; log 2). -/
def takeEvent (s : State) : Host.Outcome State Fault Refusal :=
  match s.inbox with
  | [] => .next s
  | e :: rest => hostEvent e (s.withInbox rest)

/-- The state with a table word issued next: what the host puts first into its program order (log 2). -/
def State.issueFirst (s : State) (m : Message) : State := { s with inbox := .issue m :: s.inbox }

end Sys2Proof.Machine
end

