-- ==== Sys2Proof/Machine/Step.lean ====
section
/-! DEFINITION. One step of the machine: one event of the host, wholly done before the next (spec/20_memory.md R60, R67). -/

namespace Sys2Proof.Machine

/-- One step: next, fault or refusal. -/
def step (s : State) : Host.Outcome State Fault Refusal := takeEvent s

/-- The state with the instruction of a table word where the step takes its next event. -/
def State.withFetchWord (s : State) (nbits w : Nat) : State := s.issueFirst (tableMessage nbits w)

end Sys2Proof.Machine
end

