-- ==== Sys2Proof/Safety.lean ====
section
/-! DEFINITION. What claims call a safe run: the invariant of the block's state, and an outcome that answers a next state. -/

namespace Sys2Proof.Machine

/-- `TXF` is 8 bytes (spec/10_state.md R21). -/
abbrev State.LatchSized (s : State) : Prop := s.txf.length = 8

/-- While `TXV` is 1 the latch holds a request frame: function byte `0x03`, checksum right (spec/42_frame_encoder.md
R132). -/
abbrev State.LatchIsFrame (s : State) : Prop :=
  s.txv = true → s.txf[1]? = some Config.fcReadHolding ∧ crc16 s.txf = 0

/-- `0 <= NF <= 32767` (R22). -/
abbrev State.ResultFits (s : State) : Prop := s.fout.length ≤ 32767

/-- `ERR` is 0 to 4: 5 to 7 are never written (R23, R93). -/
abbrev State.ErrLegal (s : State) : Prop := s.err.toNat ≤ 4

/-- A valid result goes with no error, and no result stands in `FOUT` without it (R22, R185). -/
abbrev State.ResultAgrees (s : State) : Prop := (s.rv = true → s.err = 0) ∧ (s.rv = false → s.fout = [])

/-- The invariant of the block. -/
abbrev State.Inv (s : State) : Prop :=
  s.LatchSized ∧ s.LatchIsFrame ∧ s.ResultFits ∧ s.ErrLegal ∧ s.ResultAgrees

/-- The outcome is a next state. -/
def Completes (o : Host.Outcome State Fault Refusal) : Prop := ∃ t, o = .next t

end Sys2Proof.Machine
end

