-- ==== Sys2Proof/WellFormed.lean ====
section
/-! DEFINITION. Which instructions are well formed. Only a response frame has a condition that its operands' types do not
state: its length is `5 + 2n` for some `n: u16` (spec/30_encoding.md R82). Every other instruction accepts every operand
(R90, R91; sequences of any finite length, spec/10_state.md R30). -/

namespace Sys2Proof

/-- A payload is `2n` bytes (R82). -/
abbrev payloadEven (payload : List Byte) : Prop := payload.length % 2 = 0

/-- `n` is a `u16`, so a payload has at most 131070 bytes (spec/43_frame_decoder.md R151). -/
abbrev payloadFits (payload : List Byte) : Prop := payload.length ≤ 131070

/-- The well-formed instructions. -/
abbrev Instr.WellFormed (i : Instr) : Prop :=
  match i with
  | .readResponse _ _ payload _ => payloadEven payload ∧ payloadFits payload
  | .crcInit | .crcUpdate _ | .crcCompute _ | .crcEmit | .crcCheck _ | .reqBuild _ _ _ | .rspParse _ _ _ _
  | .readRequest _ _ _ | .getPower | .getCurrent | .getVoltage | .getFrequency | .getPowerFactor
  | .getAnnualPowerConsumption | .getReactivePower | .getUptime => True

end Sys2Proof
end

