-- ==== Sys2Proof/Certificates/Slice0/Obligations.lean ====
section
/-! DEFINITION. The statements for the provers. Each docstring names the rule of spec/ it formalises. The field `result` holds
what a command returns (spec/00_scope.md R14; log 6). -/

open Sys2Proof Sys2Proof.Machine

/-! ## Byte orders and the checksum functions -/

/-- R52 to R54: the two byte orders of a 16-bit field, and that the little-endian reader and writer undo each other. -/
def Obligations.SixteenBitByteOrders : Prop :=
  (∀ v : Word16, encU16be v = [v.extractLsb' 8 8, v.extractLsb' 0 8]) ∧
  (∀ v : Word16, encU16le v = [v.extractLsb' 0 8, v.extractLsb' 8 8]) ∧
  (∀ t0 t1 : Byte, decU16le [t0, t1] = t0.setWidth 16 ||| (t1.setWidth 16 <<< 8)) ∧
  (∀ v : Word16, decU16le (encU16le v) = v) ∧
  (∀ t0 t1 : Byte, encU16le (decU16le [t0, t1]) = [t0, t1])

/-- R55: `q[0]` is bits 7:0 of a float's pattern and `q[3]` is bits 31:24. -/
def Obligations.FloatByteOrder : Prop :=
  ∀ q0 q1 q2 q3 : Byte,
    (decF32le q0 q1 q2 q3).extractLsb' 0 8 = q0 ∧ (decF32le q0 q1 q2 q3).extractLsb' 8 8 = q1 ∧
    (decF32le q0 q1 q2 q3).extractLsb' 16 8 = q2 ∧ (decF32le q0 q1 q2 q3).extractLsb' 24 8 = q3

/-- R110: one shift iteration, as arithmetic on the register's number. -/
def Obligations.CrcShiftHalvesThenXors : Prop :=
  ∀ r : Word16, (crcShift r).toNat = if r.toNat % 2 = 1 then (r.toNat / 2) ^^^ 0xA001 else r.toNat / 2

/-- R111: the byte meets the low 8 bits of the register, then eight shift iterations. -/
def Obligations.CrcByteIsEightShifts : Prop :=
  ∀ (r : Word16) (b : Byte), crcByte r b = crcShift^[8] (r ^^^ b.setWidth 16)

/-- R112: the message's bytes in index order from `0xFFFF`, and the checksum of the empty message. -/
def Obligations.ChecksumFoldsBytes : Prop :=
  (∀ m : List Byte, crc16 m = m.foldl crcByte 0xFFFF) ∧ crc16 [] = 0xFFFF

/-- R113: the bit-serial form equals the byte form. -/
def Obligations.SerialFormEqualsByteForm : Prop :=
  ∀ (r : Word16) (b : Byte), crcByteSerial r b = crcByte r b

/-- R119: a message followed by its own checksum, low byte first, has checksum zero. -/
def Obligations.SelfCheckYieldsZero : Prop :=
  ∀ m : List Byte, crc16 (m ++ encU16le (crc16 m)) = 0x0000

/-- R120: testing the whole for zero is the same test as comparing the trailer. -/
def Obligations.ZeroTestEqualsTrailerTest : Prop :=
  ∀ (d : List Byte) (t0 t1 : Byte), crc16 (d ++ [t0, t1]) = 0x0000 ↔ crc16 d = decU16le [t0, t1]

/-- R121 (b) to (e): a shift is a bijection whose input the top bit of its result gives back, absorbing a byte is a
bijection, a shift is linear, zero comes only from zero, eight shifts of a value with a zero low byte move the high byte
down, and a message may be absorbed in parts. -/
def Obligations.ChecksumAlgebra : Prop :=
  Function.Bijective crcShift ∧
  (∀ r : Word16, r = if (crcShift r).msb then ((crcShift r ^^^ 0xA001) <<< 1) ||| 1 else crcShift r <<< 1) ∧
  (∀ b : Byte, Function.Bijective (fun r => crcByte r b)) ∧
  (∀ x y : Word16, crcShift (x ^^^ y) = crcShift x ^^^ crcShift y) ∧
  (∀ (r : Word16) (b : Byte), crcByte r b = 0 ↔ r = b.setWidth 16) ∧
  (∀ x : Word16, x.setWidth 8 = 0 → crcShift^[8] x = x >>> 8) ∧
  (∀ a b : List Byte, crc16 (a ++ b) = b.foldl crcByte (crc16 a))

/-- R122: two messages of one length that differ in exactly one bit have different checksums. -/
def Obligations.OneFlippedBitChangesChecksum : Prop :=
  ∀ (m : List Byte) (k j : Nat), k < m.length → j < 8 →
    crc16 (m.modify k (fun b => b ^^^ (1#8 <<< j))) ≠ crc16 m

/-- R122 and R182: a buffer of the expected length with a right checksum, and any one of its bits flipped (payload,
header, `byteCount` or checksum), fails with ChecksumMismatch. -/
def Obligations.OneFlippedBitFailsTheParse : Prop :=
  ∀ (raw : List Byte) (ea ef : Byte) (en : Word16) (k j : Nat),
    raw.length = 5 + 2 * en.toNat → crc16 raw = 0 → k < raw.length → j < 8 →
    parseResponse (raw.modify k (fun b => b ^^^ (1#8 <<< j))) ea ef en = .err .checksumMismatch

/-! ## The checksum commands -/

/-- R114: `CRC <- 0xFFFF`, and nothing else but what is returned. -/
def Obligations.CrcInitLoadsStartValue : Prop :=
  ∀ s : State, exec .crcInit s = .next { s with crc := 0xFFFF, result := .none }

/-- R115: `CRC <- crc_byte(CRC, b)`, whatever `CRC` holds, and nothing else. -/
def Obligations.CrcUpdateAbsorbsOneByte : Prop :=
  ∀ (s : State) (b : Byte), exec (.crcUpdate b) s = .next { s with crc := crcByte s.crc b, result := .none }

/-- R116: `CRC <- crc16(m)`, returned; the old value is not read. -/
def Obligations.CrcComputeReturnsChecksum : Prop :=
  ∀ (s : State) (m : List Byte),
    exec (.crcCompute m) s = .next { s with crc := crc16 m, result := .word (crc16 m) }

/-- R117: returns the low byte of `CRC`, then its high byte, and writes no state. -/
def Obligations.CrcEmitReturnsLowByteFirst : Prop :=
  ∀ s : State,
    exec .crcEmit s = .next { s with result := .bytes [s.crc.extractLsb' 0 8, s.crc.extractLsb' 8 8] }

/-- R118: `CRC <- crc16(m)`, and whether it is zero; false for every message of fewer than two bytes. -/
def Obligations.CrcCheckTestsForZero : Prop :=
  (∀ (s : State) (m : List Byte),
    exec (.crcCheck m) s = .next { s with crc := crc16 m, result := .bool (decide (crc16 m = 0x0000)) }) ∧
  (∀ (s : State) (m : List Byte), m.length < 2 →
    exec (.crcCheck m) s = .next { s with crc := crc16 m, result := .bool false })

/-- R115 with R67: `CRC.INIT` and then `CRC.UPDATE` of each byte of `m`, issued in order, leave `CRC = crc16(m)` and
everything else as it was. -/
def Obligations.StreamingEqualsCompute : Prop :=
  ∀ (m : List Byte) (rest : List HostEvent) (s : State),
    s.inbox = .issue (encode .crcInit) :: (m.map (fun b => .issue (encode (.crcUpdate b))) ++ rest) →
    Host.Core.run Sys2Proof.core (m.length + 1) s = .next { s with crc := crc16 m, result := .none, inbox := rest }

/-! ## The encoder -/

/-- R130 and R63: the eight bytes of a request, by index. -/
def Obligations.RequestFrameLayout : Prop :=
  ∀ (a : Byte) (start count : Word16),
    let head : List Byte :=
      [a, 0x03, start.extractLsb' 8 8, start.extractLsb' 0 8, count.extractLsb' 8 8, count.extractLsb' 0 8]
    buildRequest a start count = head ++ [(crc16 head).extractLsb' 0 8, (crc16 head).extractLsb' 8 8]

/-- R132 (a) to (e). -/
def Obligations.RequestFrameProperties : Prop :=
  (∀ (a : Byte) (start count : Word16),
    (buildRequest a start count).length = 8 ∧ crc16 (buildRequest a start count) = 0x0000 ∧
    (buildRequest a start count)[1]? = some 0x03 ∧
    decU16le ((buildRequest a start count).drop 6) = crc16 ((buildRequest a start count).take 6)) ∧
  (∀ (a a' : Byte) (start start' count count' : Word16),
    buildRequest a start count = buildRequest a' start' count' → a = a' ∧ start = start' ∧ count = count')

/-- R134: the seven distinct frames MeterClient sends. -/
def Obligations.MeterClientFrames : Prop :=
  buildRequest 1 0 18 = [0x01, 0x03, 0x00, 0x00, 0x00, 0x12, 0xC5, 0xC7] ∧
  buildRequest 1 2 18 = [0x01, 0x03, 0x00, 0x02, 0x00, 0x12, 0x64, 0x07] ∧
  buildRequest 1 4 18 = [0x01, 0x03, 0x00, 0x04, 0x00, 0x12, 0x84, 0x06] ∧
  buildRequest 1 6 18 = [0x01, 0x03, 0x00, 0x06, 0x00, 0x12, 0x25, 0xC6] ∧
  buildRequest 1 8 18 = [0x01, 0x03, 0x00, 0x08, 0x00, 0x12, 0x44, 0x05] ∧
  buildRequest 1 14 18 = [0x01, 0x03, 0x00, 0x0E, 0x00, 0x12, 0xA4, 0x04] ∧
  buildRequest 1 16 18 = [0x01, 0x03, 0x00, 0x10, 0x00, 0x12, 0xC4, 0x02]

/-- R131: `TXF`, `TXV` and `CRC` are written, the frame is returned, and nothing else changes, for every operand. -/
def Obligations.ReqBuildLatchesFrame : Prop :=
  ∀ (s : State) (a : Byte) (start count : Word16),
    exec (.reqBuild a start count) s =
      .next { s with
        txf := buildRequest a start count, txv := true, crc := crc16 ((buildRequest a start count).take 6),
        result := .bytes (buildRequest a start count) }

/-- R130 with R81: what `REQ.BUILD` latches decodes, as a wire frame, to the request of the same operands. -/
def Obligations.LatchedFrameDecodesToRequest : Prop :=
  ∀ (s t : State) (a : Byte) (start count : Word16),
    exec (.reqBuild a start count) s = .next t → decode ⟨.req8, t.txf⟩ = .ok (.readRequest a start count)

/-! ## The decoder -/

/-- R180 and R187: the kind reported is that of the first failing check, and success is no check failing. -/
def Obligations.ParseReportsFirstFailure : Prop :=
  ∀ (raw : List Byte) (ea ef : Byte) (en : Word16),
    let lengthOk := raw.length = 3 + en.toNat * 2 + 2
    let checksumOk := crc16 (raw.take (raw.length - 2)) = decU16le (raw.drop (raw.length - 2))
    let echoOk := raw[0]? = some ea ∧ raw[1]? = some ef
    let payloadOk := ((raw.take (raw.length - 2)).drop 3).length % 4 = 0
    (parseResponse raw ea ef en = .err .lengthMismatch ↔ ¬ lengthOk) ∧
    (parseResponse raw ea ef en = .err .checksumMismatch ↔ lengthOk ∧ ¬ checksumOk) ∧
    (parseResponse raw ea ef en = .err .unexpectedReply ↔ lengthOk ∧ checksumOk ∧ ¬ echoOk) ∧
    (parseResponse raw ea ef en = .err .decodeError ↔ lengthOk ∧ checksumOk ∧ echoOk ∧ ¬ payloadOk) ∧
    ((∃ fs, parseResponse raw ea ef en = .ok fs) ↔ lengthOk ∧ checksumOk ∧ echoOk ∧ payloadOk)

/-- R153: exactly when a parse succeeds, and that its result depends on `raw[3 : len(raw)-2]` alone. -/
def Obligations.ParseSuccessCharacterised : Prop :=
  (∀ (raw : List Byte) (ea ef : Byte) (en : Word16),
    (∃ fs, parseResponse raw ea ef en = .ok fs) ↔
      raw.length = 5 + 2 * en.toNat ∧ crc16 raw = 0x0000 ∧ raw[0]? = some ea ∧ raw[1]? = some ef ∧ en.toNat % 2 = 0) ∧
  (∀ (raw raw' : List Byte) (ea ea' ef ef' : Byte) (en en' : Word16) (fs fs' : List Word32),
    parseResponse raw ea ef en = .ok fs → parseResponse raw' ea' ef' en' = .ok fs' →
    (raw.take (raw.length - 2)).drop 3 = (raw'.take (raw'.length - 2)).drop 3 → fs = fs')

/-- R152: an odd count never parses, and DecodeError is exactly an odd count that passes the first three checks. -/
def Obligations.OddCountNeverParses : Prop :=
  ∀ (raw : List Byte) (ea ef : Byte) (en : Word16),
    (en.toNat % 2 = 1 → ∀ fs, parseResponse raw ea ef en ≠ .ok fs) ∧
    (parseResponse raw ea ef en = .err .decodeError ↔
      en.toNat % 2 = 1 ∧ raw.length = 5 + 2 * en.toNat ∧
      crc16 (raw.take (raw.length - 2)) = decU16le (raw.drop (raw.length - 2)) ∧
      raw[0]? = some ea ∧ raw[1]? = some ef)

/-- R149: a successful result has `en / 2` floats, `en` is even, and there are at most 32767 of them. -/
def Obligations.ParsedCountIsHalfTheRegisters : Prop :=
  ∀ (raw : List Byte) (ea ef : Byte) (en : Word16) (fs : List Word32),
    parseResponse raw ea ef en = .ok fs → en.toNat % 2 = 0 ∧ fs.length = en.toNat / 2 ∧ fs.length ≤ 32767

/-- R144 and R86: float `k` is made of `raw[3+4k]` to `raw[6+4k]`, the lowest byte first, in order. -/
def Obligations.FloatElementsInOrder : Prop :=
  ∀ (raw : List Byte) (ea ef : Byte) (en : Word16) (fs : List Word32) (k : Nat),
    parseResponse raw ea ef en = .ok fs → k < en.toNat / 2 →
    ∃ q0 q1 q2 q3 : Byte,
      raw[3 + 4 * k]? = some q0 ∧ raw[4 + 4 * k]? = some q1 ∧ raw[5 + 4 * k]? = some q2 ∧ raw[6 + 4 * k]? = some q3 ∧
      fs[k]? = some (q0.setWidth 32 ||| (q1.setWidth 32 <<< 8) ||| (q2.setWidth 32 <<< 16) ||| (q3.setWidth 32 <<< 24))

/-- R146: the decoder does not look at `byteCount`. Two frames with right checksums that differ in it and in their
trailers alone parse alike. -/
def Obligations.ByteCountIsNotChecked : Prop :=
  ∀ (a f b b' ea ef : Byte) (payload : List Byte) (en : Word16),
    parseResponse ([a, f, b] ++ payload ++ encU16le (crc16 ([a, f, b] ++ payload))) ea ef en =
    parseResponse ([a, f, b'] ++ payload ++ encU16le (crc16 ([a, f, b'] ++ payload))) ea ef en

/-- R145: all that `RSP.PARSE` writes and returns on success and on each error, and that nothing else changes. -/
def Obligations.RspParseEffect : Prop :=
  ∀ (s : State) (raw : List Byte) (ea ef : Byte) (en : Word16),
    let crc' := if raw.length = 3 + en.toNat * 2 + 2 then crc16 (raw.take (raw.length - 2)) else s.crc
    (∀ fs, parseResponse raw ea ef en = .ok fs →
      exec (.rspParse raw ea ef en) s =
        .next { s with crc := crc', fout := fs, rv := true, err := 0, result := .floats fs }) ∧
    (∀ k, parseResponse raw ea ef en = .err k →
      exec (.rspParse raw ea ef en) s =
        .next { s with crc := crc', fout := [], rv := false, err := errCode k, result := .error k })

/-- R185 and R180: what an error leaves, with the codes as numbers. After LengthMismatch `CRC` is unchanged, after the
others it is `crc16(body)`. -/
def Obligations.ErrorEntryLeavesNoFloats : Prop :=
  ∀ (s : State) (raw : List Byte) (ea ef : Byte) (en : Word16) (k : ErrKind),
    parseResponse raw ea ef en = .err k →
    ∃ t, exec (.rspParse raw ea ef en) s = .next t ∧
      t.fout = [] ∧ t.rv = false ∧ t.result = .error k ∧ t.txf = s.txf ∧ t.txv = s.txv ∧
      (k = .lengthMismatch → t.err = 1 ∧ t.crc = s.crc) ∧
      (k ≠ .lengthMismatch → t.crc = crc16 (raw.take (raw.length - 2))) ∧
      (k = .checksumMismatch → t.err = 2) ∧ (k = .unexpectedReply → t.err = 3) ∧ (k = .decodeError → t.err = 4)

/-- R147: a pattern read as a number, in each range of its exponent and fraction fields. -/
def Obligations.FloatPatternReading : Prop :=
  ∀ w : Word32,
    let sign : Rat := if w.msb then -1 else 1
    let e := (w.extractLsb' 23 8).toNat
    let f := (w.extractLsb' 0 23).toNat
    (1 ≤ e → e ≤ 254 →
      floatValue w = .finite (sign * (2 : Rat) ^ ((e : Int) - 127) * (1 + (f : Rat) / 2 ^ 23))) ∧
    (e = 0 → f ≠ 0 → floatValue w = .finite (sign * (2 : Rat) ^ (-126 : Int) * ((f : Rat) / 2 ^ 23))) ∧
    (e = 0 → f = 0 → floatValue w = if w.msb then .negativeZero else .finite 0) ∧
    (e = 255 → f = 0 → floatValue w = .infinity w.msb) ∧
    (e = 255 → f ≠ 0 → floatValue w = .nan)

/-! ## The commands together -/

/-- R35: which command touches which state. The system around the block is untouched by every command. -/
def Obligations.CommandWriteSets : Prop :=
  ∀ (i : Instr) (s t : State), (encode i).format = .cmd → exec i s = .next t →
    ((∀ a start count, i ≠ .reqBuild a start count) → t.txf = s.txf ∧ t.txv = s.txv) ∧
    ((∀ raw ea ef en, i ≠ .rspParse raw ea ef en) → t.fout = s.fout ∧ t.rv = s.rv ∧ t.err = s.err) ∧
    (i = .crcEmit → t.crc = s.crc) ∧
    (∀ raw ea ef en, i = .rspParse raw ea ef en → raw.length ≠ 5 + 2 * en.toNat → t.crc = s.crc) ∧
    t.link = s.link ∧ t.wire = s.wire ∧ t.arrivals = s.arrivals ∧ t.draws = s.draws ∧
    t.outstandingAddress = s.outstandingAddress ∧ t.outstandingCount = s.outstandingCount ∧ t.inbox = s.inbox

/-- R32: no hidden state. Every command but `CRC.UPDATE` and `CRC.EMIT` returns the same, and leaves the same in what it
writes, from any two states. -/
def Obligations.CommandsReadNoHiddenState : Prop :=
  ∀ (i : Instr) (s s' t t' : State), (encode i).format = .cmd → (∀ b, i ≠ .crcUpdate b) → i ≠ .crcEmit →
    exec i s = .next t → exec i s' = .next t' →
    t.result = t'.result ∧ (t.crc = t'.crc ∨ t.crc = s.crc ∧ t'.crc = s'.crc) ∧
    (t.txf = t'.txf ∧ t.txv = t'.txv ∨ t.txf = s.txf ∧ t.txv = s.txv ∧ t'.txf = s'.txf ∧ t'.txv = s'.txv) ∧
    (t.fout = t'.fout ∧ t.rv = t'.rv ∧ t.err = t'.err ∨
      t.fout = s.fout ∧ t.rv = s.rv ∧ t.err = s.err ∧ t'.fout = s'.fout ∧ t'.rv = s'.rv ∧ t'.err = s'.err)

/-- R61: every command but `CRC.UPDATE`, issued again at once, leaves the same state and gives the same result. -/
def Obligations.CommandsAreIdempotent : Prop :=
  ∀ (i : Instr) (s t : State), (encode i).format = .cmd → (∀ b, i ≠ .crcUpdate b) → exec i s = .next t →
    exec i t = .next t

/-- Every instruction completes wherever the client's Transport is open, and the seven commands and a response frame
complete in every state. R199 and R224 give this for the seven commands alone. For the wire rows it rests on the model's
choice of what they do (log 8, log 9); for the operations on R163 and R164, with every Transport read of the model
returning some bytes, be they none (log 10: R224 says nothing about whether a real read returns); that the request frame
and the operations ask for an open Transport is log 12. -/
def Obligations.EveryInstructionCompletes : Prop :=
  (∀ (i : Instr) (s : State), s.link = .opened → Completes (exec i s)) ∧
  (∀ (i : Instr) (s : State), (encode i).format = .cmd ∨ (encode i).format = .rspv → Completes (exec i s))

/-! ## The wire frames -/

/-- A request frame on the wire: built by the block (R130, R131), written to the Transport (R161), its operands kept by
the host for the reply (R220). The model's choice of what the row does: log 8. -/
def Obligations.RequestFrameGoesOnTheWire : Prop :=
  ∀ (s : State) (a : Byte) (start count : Word16), s.link = .opened →
    exec (.readRequest a start count) s =
      .next { s with
        txf := buildRequest a start count, txv := true, crc := crc16 ((buildRequest a start count).take 6),
        wire := s.wire ++ [buildRequest a start count], outstandingAddress := a, outstandingCount := count,
        result := .none }

/-- A response frame: `parse_response` of its bytes (R140) with the operands of the last request (R220) and function
code 3, with the effects of `RSP.PARSE` (R145). The model's choice of whose operands: log 9. -/
def Obligations.ResponseFrameIsParsed : Prop :=
  ∀ (s : State) (a byteCount : Byte) (payload : List Byte) (c : Word16),
    let raw := [a, 0x03, byteCount] ++ payload ++ [c.extractLsb' 0 8, c.extractLsb' 8 8]
    let en := s.outstandingCount
    let crc' := if raw.length = 3 + en.toNat * 2 + 2 then crc16 (raw.take (raw.length - 2)) else s.crc
    (∀ fs, parseResponse raw s.outstandingAddress 0x03 en = .ok fs →
      exec (.readResponse a byteCount payload c) s =
        .next { s with crc := crc', fout := fs, rv := true, err := 0, result := .floats fs }) ∧
    (∀ k, parseResponse raw s.outstandingAddress 0x03 en = .err k →
      exec (.readResponse a byteCount payload c) s =
        .next { s with crc := crc', fout := [], rv := false, err := errCode k, result := .error k })

/-- R160: a request and then a well-formed reply to it (same address, `2 n` payload bytes for an even `n`, right
checksum) deliver the payload's floats, whatever the start register and the `byteCount` byte. The two frames' meanings
are the model's choice: log 8, log 9. -/
def Obligations.AnsweredRequestDeliversFloats : Prop :=
  ∀ (s t : State) (a byteCount : Byte) (start count : Word16) (payload : List Byte),
    exec (.readRequest a start count) s = .next t → count.toNat % 2 = 0 → payload.length = 2 * count.toNat →
    ∃ u, exec (.readResponse a byteCount payload (crc16 ([a, 0x03, byteCount] ++ payload))) t = .next u ∧
      u.fout = decF32s payload ∧ u.fout.length = count.toNat / 2 ∧ u.rv = true ∧ u.err = 0 ∧
      u.crc = crc16 ([a, 0x03, byteCount] ++ payload) ∧ u.txf = buildRequest a start count

/-! ## The MeterClient operations -/

/-- R164 to R166: all that each operation does, from any state with an open Transport and for every reply. The reply is
what the Transport's read of 41 bytes returns (`readBytes`: arrived bytes, else a free draw, log 10), of which nothing
is assumed (R163); the operation returns the rounded element (`roundFloat`, log 11) or the failure. That an open
Transport is asked for is log 12. -/
def Obligations.OperationsFollowTheirRows : Prop :=
  ∀ row ∈ ([(.getPower, 0, 0, 3), (.getCurrent, 0, 1, 3), (.getVoltage, 2, 1, 1), (.getFrequency, 4, 1, 2),
      (.getPowerFactor, 6, 1, 4), (.getAnnualPowerConsumption, 8, 1, 2), (.getReactivePower, 14, 0, 3),
      (.getUptime, 16, 0, 3)] : List (Instr × Word16 × Nat × Nat)),
    ∀ s : State, s.link = .opened →
      let (i, start, index, decimals) := row
      let frame := buildRequest 1 start 18
      let raw := s.readBytes 41
      let sent : State := { s with
        txf := frame, txv := true, wire := s.wire ++ [frame], outstandingAddress := 1, outstandingCount := 18,
        crc := if raw.length = 41 then crc16 (raw.take (raw.length - 2)) else crc16 (frame.take 6),
        arrivals := s.arrivals.drop 1, draws := if s.arrivals = [] then s.draws + 1 else s.draws }
      (∀ fs, parseResponse raw 1 0x03 18 = .ok fs →
        ∃ w, fs[index]? = some w ∧
          exec i s = .next { sent with fout := fs, rv := true, err := 0, result := .number (roundFloat w decimals) }) ∧
      (∀ k, parseResponse raw 1 0x03 18 = .err k →
        exec i s = .next { sent with fout := [], rv := false, err := errCode k, result := .error k })

/-- R169: an operation that completes returns a number or an explicit error kind, never an absent value. -/
def Obligations.OperationReturnsNumberOrFailure : Prop :=
  ∀ (i : Instr) (s t : State), (encode i).format = .pseudo → exec i s = .next t →
    (∃ n, t.result = .number n) ∨ (∃ k, t.result = .error k ∧ t.fout = [] ∧ t.rv = false)

/-- R174: with a Transport that returns the 41-byte frame of the nine floats for every read, `getPower` returns 1234.5
and then `getCurrent` returns 6.7. -/
def Obligations.EndToEndMeasurement : Prop :=
  ∀ (s : State) (rest : List (List Byte)),
    let frame : List Byte :=
      [0x01, 0x03, 0x24, 0x00, 0x50, 0x9A, 0x44, 0x66, 0x66, 0xD6, 0x40, 0x9A, 0x19, 0x66, 0x43,
       0x00, 0x00, 0x48, 0x42, 0x48, 0xE1, 0x7A, 0x3F, 0x9A, 0x09, 0x96, 0x44, 0x66, 0xC6, 0x8F, 0x44,
       0x33, 0x33, 0xF3, 0x41, 0x00, 0x00, 0xB4, 0x44, 0x10, 0xA6]
    s.link = .opened → s.arrivals = frame :: frame :: rest →
    ∃ t u, exec .getPower s = .next t ∧ t.result = .number (.finite (2469 / 2)) ∧
      exec .getCurrent t = .next u ∧ u.result = .number (.finite (67 / 10))

/-! ## The host's accesses -/

/-- R26: what a host read of registers 0, 1, 2 and 4 returns, without changing any register. -/
def Obligations.RegisterReadsByNumber : Prop :=
  ∀ (s : State) (rest : List HostEvent),
    (s.inbox = .readRegister 0 :: rest → step s = .next { s with inbox := rest, result := .word s.crc }) ∧
    (s.inbox = .readRegister 1 :: rest →
      ∃ v : Byte, step s = .next { s with inbox := rest, result := .byte v } ∧
        v.getLsbD 0 = s.txv ∧ v.getLsbD 1 = s.rv ∧ v.extractLsb' 2 3 = s.err ∧ v.extractLsb' 5 3 = 0) ∧
    (s.inbox = .readRegister 2 :: rest →
      step s = .next { s with inbox := rest, result := .word (BitVec.ofNat 16 s.fout.length) }) ∧
    (s.inbox = .readRegister 4 :: rest → step s = .next { s with inbox := rest, result := .floats s.fout })

/-- R22 and R26: register `NF` is the number of floats, exactly, in every state of the invariant. -/
def Obligations.CountRegisterIsExact : Prop :=
  ∀ s : State, s.Inv → s.nf.toNat = s.fout.length

/-- R21: a read of `TXF` faults while `TXV` is 0, and returns the 8 latched bytes while it is 1. -/
def Obligations.LatchReadNeedsValidBit : Prop :=
  ∀ (s : State) (rest : List HostEvent), s.inbox = .readRegister 3 :: rest →
    (s.txv = false → step s = .fault .txfNoValue) ∧
    (s.txv = true → step s = .next { s with inbox := rest, result := .bytes s.txf })

/-- R218: reading `FOUT[index]` gives the element, and faults for an index at or beyond `NF`. -/
def Obligations.FloatReadNeedsElement : Prop :=
  ∀ (s : State) (rest : List HostEvent) (index : Nat), s.inbox = .readFloat index :: rest →
    (s.fout.length ≤ index → step s = .fault .foutNoValue) ∧
    (∀ h : index < s.fout.length, step s = .next { s with inbox := rest, result := .float s.fout[index] })

/-- R34: the reset values of the block's state, with no value readable in `TXF`. -/
def Obligations.ResetValues : Prop :=
  State.reset.crc = 0xFFFF ∧ State.reset.txv = false ∧ State.reset.fout = [] ∧ State.reset.rv = false ∧
  State.reset.err = 0 ∧
  ∀ rest, step { State.reset with inbox := .readRegister 3 :: rest } = .fault .txfNoValue

/-- R210: a reset puts the block into the state of R34, from any state. That the system around the block keeps what it
has is the model's choice: log 20. -/
def Obligations.ResetEventRestoresBlock : Prop :=
  ∀ (s : State) (rest : List HostEvent), s.inbox = .resetBlock :: rest →
    ∃ t, step s = .next t ∧ t.crc = 0xFFFF ∧ t.txv = false ∧ t.fout = [] ∧ t.rv = false ∧ t.err = 0 ∧
      t.link = s.link ∧ t.wire = s.wire ∧ t.arrivals = s.arrivals ∧ t.draws = s.draws ∧ t.inbox = rest

/-- R92: a command code that R95 does not list is refused, whatever follows it. -/
def Obligations.ReservedCodesAreRefused : Prop :=
  ∀ (s : State) (code : Byte) (operands : List Byte) (rest : List HostEvent),
    code ∉ ([0x01, 0x02, 0x03, 0x04, 0x05, 0x10, 0x20] : List Byte) →
    s.inbox = .issue ⟨.cmd, code :: operands⟩ :: rest →
    step s = .refused (.undecodable (.reservedCode code))

/-- R67: two hosts issuing at once have no meaning, and the model refuses it. -/
def Obligations.TwoHostsAreRefused : Prop :=
  ∀ (s : State) (m n : Message) (rest : List HostEvent), s.inbox = .issueTogether m n :: rest →
    step s = .refused .twoHosts

/-- R167 and R168: the nine names, in order; the spec prints each unit as the text in parentheses. Outside `[0, 8]` the
model refuses. -/
def Obligations.RegisterMapLabels : Prop :=
  ∀ (s : State) (rest : List HostEvent) (index : Nat), s.inbox = .describe index :: rest →
    (∀ name unit,
      ([("Active Power", some "W"), ("RMS Current", some "A"), ("Voltage RMS", some "V"), ("Frequency", some "Hz"),
        ("Power Factor", none), ("Annual Power", some "KWH"), ("Active Power", some "KWH, cumulative"),
        ("Reactive Power", some "KWH"), ("Load Time", some "mins")] : List (String × Option String))[index]? =
          some (name, unit) →
      step s = .next { s with inbox := rest, result := .label name unit }) ∧
    (8 < index → step s = .refused (.describeRange index))

/-- R162 and R186: a construction whose `open` answers ConnectionError is fatal to the client, and touches no register of
the block; without an open Transport a request frame and every operation stop with one fault. That construction is an
event of the environment, and that the model stops there, are its choice: log 12. -/
def Obligations.ConnectionErrorIsFatal : Prop :=
  (∀ (s : State) (rest : List HostEvent), s.inbox = .openClient false :: rest →
    step s = .next { s with inbox := rest, link := .failed, result := .connectionError }) ∧
  (∀ (i : Instr) (s : State), s.link ≠ .opened → (encode i).format = .req8 ∨ (encode i).format = .pseudo →
    exec i s = .fault .clientUnusable)

/-- A waiting event that decodes runs as that instruction, on the state from which it has been taken (R60, R67). How
events wait, and that with none waiting the machine stays as it is, are the model's choice: log 2. -/
def Obligations.StepRunsDecodedInstruction : Prop :=
  (∀ (s : State) (m : Message) (i : Instr) (rest : List HostEvent),
    s.inbox = .issue m :: rest → decode m = .ok i → step s = exec i { s with inbox := rest }) ∧
  (∀ s : State, s.inbox = [] → step s = .next s)

/-! ## Encoding -/

/-- R81, R82, R95: words written out from the spec's encodings decode to their instructions. The operand bytes after a
command's code are the model's choice (log 3), as are the format a message names and the order of a table word's bytes
(log 4). The last word is the frame R166 gives for `getPowerFactor` and a valid request frame too: that it is read as the
operation is the model's choice (log 4, log 5). -/
def Obligations.WrittenWordsDecode : Prop :=
  decode ⟨.cmd, [0x01]⟩ = .ok .crcInit ∧
  decode ⟨.cmd, [0x03, 0x01, 0x03, 0x00, 0x00, 0x00, 0x12]⟩ = .ok (.crcCompute [0x01, 0x03, 0x00, 0x00, 0x00, 0x12]) ∧
  decode ⟨.cmd, [0x10, 0x01, 0x12, 0x34, 0xAB, 0xCD]⟩ = .ok (.reqBuild 1 0x1234 0xABCD) ∧
  decode ⟨.req8, [0x01, 0x03, 0x12, 0x34, 0xAB, 0xCD, 0xBF, 0xD9]⟩ = .ok (.readRequest 1 0x1234 0xABCD) ∧
  decode ⟨.rspv, [0x01, 0x03, 0x04, 0x00, 0x00, 0x20, 0x41, 0x23, 0xC3]⟩ =
    .ok (.readResponse 1 4 [0x00, 0x00, 0x20, 0x41] 0xC323) ∧
  decodeTableWord 64 0x01030006001225C6 = some .getPowerFactor

/-- Decoding the encoding of a well-formed instruction gives it back, with every operand at every value (R80 to R82, R95).
The model's choices it rests on: a command's operand bytes (log 3), the format a message names (log 4), an operation's
selector byte (log 5), which bytes are a response frame (log 22). -/
def Obligations.DecodeUndoesEncode : Prop :=
  ∀ i : Instr, i.WellFormed → decode (encode i) = .ok i

/-- A message that decodes gives a well-formed instruction, and is its encoding: no message but one means it. R81 and R82
give this for the bytes of the wire frames. The rest is the model's choice: for commands the carriage of operands (log 3;
R83 fixes none), for operations the selector byte (log 5), for all of them the format a message names (log 4), and the
lengths of a response frame that the model admits (log 22). -/
def Obligations.EncodeUndoesDecode : Prop :=
  ∀ (m : Message) (i : Instr), decode m = .ok i → i.WellFormed ∧ encode i = m

/-! ## The whole machine -/

/-- The invariant of the block holds after reset. -/
def Obligations.ResetSatisfiesInvariant : Prop := State.reset.Inv

/-- Every step keeps the invariant: `TXF` is 8 bytes and, while valid, a request frame whose checksum is right; `NF` is
at most 32767; `ERR` is at most 4; `RV` goes with no error, and no float stands in `FOUT` without it (R21 to R23, R93,
R132, R185). -/
def Obligations.StepKeepsInvariant : Prop :=
  ∀ s t : State, s.Inv → step s = .next t → t.Inv

/-- R21: nothing but a reset clears `TXV`. -/
def Obligations.OnlyResetClearsLatchValid : Prop :=
  ∀ s t : State, s.txv = true → step s = .next t → t.txv = false → ∃ rest, s.inbox = .resetBlock :: rest

/-- R35, R96, R161: the wire is only ever added to, by at most one frame a step, and the frame added is the one in `TXF`. -/
def Obligations.StepWritesAtMostOneFrame : Prop :=
  ∀ s t : State, step s = .next t → t.wire = s.wire ∨ (t.wire = s.wire ++ [t.txf] ∧ t.txv = true)
end

