-- ==== Sys2Proof/Laws/Frames.lean ====
section
/-! SUPPORT. What the pure functions of the codec do, said once: lengths, folds, and the cases of a parse. -/

namespace Sys2Proof.Machine

@[simp] theorem encU16be_length (v : Word16) : (encU16be v).length = 2 := rfl
@[simp] theorem encU16le_length (v : Word16) : (encU16le v).length = 2 := rfl
@[simp] theorem requestHead_length (a : Byte) (start count : Word16) : (requestHead a start count).length = 6 := rfl
@[simp] theorem buildRequest_length (a : Byte) (start count : Word16) : (buildRequest a start count).length = 8 := rfl

/-- The checksum of a request covers its head. -/
@[simp] theorem buildRequest_take (a : Byte) (start count : Word16) :
    (buildRequest a start count).take 6 = requestHead a start count := rfl

@[simp] theorem responseFrame_length (a b : Byte) (p : List Byte) (c : Word16) :
    (responseFrame a b p c).length = p.length + 5 := by simp [responseFrame]

@[simp] theorem crcBytes_nil (r : Word16) : crcBytes r [] = r := rfl
@[simp] theorem crcBytes_cons (r : Word16) (b : Byte) (m : List Byte) :
    crcBytes r (b :: m) = crcBytes (crcByte r b) m := rfl

/-- A message absorbed in two parts. -/
theorem crcBytes_append (r : Word16) (m n : List Byte) : crcBytes r (m ++ n) = crcBytes (crcBytes r m) n := by
  induction m generalizing r with
  | nil => rfl
  | cons b m ih => exact ih _

/-- A payload of `4 k` bytes or a few more gives `k` floats. -/
theorem decF32s_length : ∀ p : List Byte, (decF32s p).length = p.length / 4
  | [] => rfl
  | [_] => by simp [decF32s]
  | [_, _] => by simp [decF32s]
  | [_, _, _] => by simp [decF32s]
  | _ :: _ :: _ :: _ :: rest => by
    have h := decF32s_length rest
    simp only [decF32s, List.length_cons, h]
    omega

/-- The length of a payload. -/
theorem framePayload_length (raw : List Byte) : (framePayload raw).length = raw.length - 5 := by
  simp only [framePayload, frameBody, List.length_drop, List.length_take]
  omega

/-- The cases of a parse, each with all it says: the first failing check, or the floats of the payload. -/
theorem parseResponse_cases (raw : List Byte) (ea ef : Byte) (en : Word16) :
    (raw.length ≠ expectedLength en ∧ parseResponse raw ea ef en = .err .lengthMismatch) ∨
    (raw.length = expectedLength en ∧ crc16 (frameBody raw) ≠ decU16le (frameTrailer raw) ∧
      parseResponse raw ea ef en = .err .checksumMismatch) ∨
    (raw.length = expectedLength en ∧ crc16 (frameBody raw) = decU16le (frameTrailer raw) ∧
      (raw[0]? ≠ some ea ∨ raw[1]? ≠ some ef) ∧ parseResponse raw ea ef en = .err .unexpectedReply) ∨
    (raw.length = expectedLength en ∧ crc16 (frameBody raw) = decU16le (frameTrailer raw) ∧
      raw[0]? = some ea ∧ raw[1]? = some ef ∧ (framePayload raw).length % 4 ≠ 0 ∧
      parseResponse raw ea ef en = .err .decodeError) ∨
    (raw.length = expectedLength en ∧ crc16 (frameBody raw) = decU16le (frameTrailer raw) ∧
      raw[0]? = some ea ∧ raw[1]? = some ef ∧ (framePayload raw).length % 4 = 0 ∧
      parseResponse raw ea ef en = .ok (decF32s (framePayload raw))) := by
  unfold parseResponse
  by_cases h1 : raw.length = expectedLength en
  · by_cases h2 : crc16 (frameBody raw) = decU16le (frameTrailer raw)
    · by_cases h3 : raw[0]? ≠ some ea ∨ raw[1]? ≠ some ef
      · simp [h1, h2, h3]
      · have h3' := h3
        simp only [not_or, not_not] at h3'
        by_cases h4 : (framePayload raw).length % 4 = 0 <;> simp [h1, h2, h3', h4]
    · simp [h1, h2]
  · simp [h1]

end Sys2Proof.Machine
end

