-- ==== Sys2Proof/Laws/State.lean ====
section
/-! SUPPORT. The fields of every update of the state: one lemma per field per update, each true by definition. -/

namespace Sys2Proof.Machine

variable (s : State)

/-! ## `returns` -/

@[simp] theorem State.returns_crc (r : Result) : (s.returns r).crc = s.crc := rfl
@[simp] theorem State.returns_txf (r : Result) : (s.returns r).txf = s.txf := rfl
@[simp] theorem State.returns_txv (r : Result) : (s.returns r).txv = s.txv := rfl
@[simp] theorem State.returns_fout (r : Result) : (s.returns r).fout = s.fout := rfl
@[simp] theorem State.returns_rv (r : Result) : (s.returns r).rv = s.rv := rfl
@[simp] theorem State.returns_err (r : Result) : (s.returns r).err = s.err := rfl
@[simp] theorem State.returns_link (r : Result) : (s.returns r).link = s.link := rfl
@[simp] theorem State.returns_wire (r : Result) : (s.returns r).wire = s.wire := rfl
@[simp] theorem State.returns_arrivals (r : Result) : (s.returns r).arrivals = s.arrivals := rfl
@[simp] theorem State.returns_draws (r : Result) : (s.returns r).draws = s.draws := rfl
@[simp] theorem State.returns_outstandingAddress (r : Result) : (s.returns r).outstandingAddress = s.outstandingAddress := rfl
@[simp] theorem State.returns_outstandingCount (r : Result) : (s.returns r).outstandingCount = s.outstandingCount := rfl
@[simp] theorem State.returns_result (r : Result) : (s.returns r).result = r := rfl
@[simp] theorem State.returns_inbox (r : Result) : (s.returns r).inbox = s.inbox := rfl

/-! ## `setCrc` -/

@[simp] theorem State.setCrc_crc (v : Word16) : (s.setCrc v).crc = v := rfl
@[simp] theorem State.setCrc_txf (v : Word16) : (s.setCrc v).txf = s.txf := rfl
@[simp] theorem State.setCrc_txv (v : Word16) : (s.setCrc v).txv = s.txv := rfl
@[simp] theorem State.setCrc_fout (v : Word16) : (s.setCrc v).fout = s.fout := rfl
@[simp] theorem State.setCrc_rv (v : Word16) : (s.setCrc v).rv = s.rv := rfl
@[simp] theorem State.setCrc_err (v : Word16) : (s.setCrc v).err = s.err := rfl
@[simp] theorem State.setCrc_link (v : Word16) : (s.setCrc v).link = s.link := rfl
@[simp] theorem State.setCrc_wire (v : Word16) : (s.setCrc v).wire = s.wire := rfl
@[simp] theorem State.setCrc_arrivals (v : Word16) : (s.setCrc v).arrivals = s.arrivals := rfl
@[simp] theorem State.setCrc_draws (v : Word16) : (s.setCrc v).draws = s.draws := rfl
@[simp] theorem State.setCrc_outstandingAddress (v : Word16) : (s.setCrc v).outstandingAddress = s.outstandingAddress := rfl
@[simp] theorem State.setCrc_outstandingCount (v : Word16) : (s.setCrc v).outstandingCount = s.outstandingCount := rfl
@[simp] theorem State.setCrc_result (v : Word16) : (s.setCrc v).result = s.result := rfl
@[simp] theorem State.setCrc_inbox (v : Word16) : (s.setCrc v).inbox = s.inbox := rfl

/-! ## `latchRequest` -/

@[simp] theorem State.latchRequest_crc (f : List Byte) : (s.latchRequest f).crc = s.crc := rfl
@[simp] theorem State.latchRequest_txf (f : List Byte) : (s.latchRequest f).txf = f := rfl
@[simp] theorem State.latchRequest_txv (f : List Byte) : (s.latchRequest f).txv = true := rfl
@[simp] theorem State.latchRequest_fout (f : List Byte) : (s.latchRequest f).fout = s.fout := rfl
@[simp] theorem State.latchRequest_rv (f : List Byte) : (s.latchRequest f).rv = s.rv := rfl
@[simp] theorem State.latchRequest_err (f : List Byte) : (s.latchRequest f).err = s.err := rfl
@[simp] theorem State.latchRequest_link (f : List Byte) : (s.latchRequest f).link = s.link := rfl
@[simp] theorem State.latchRequest_wire (f : List Byte) : (s.latchRequest f).wire = s.wire := rfl
@[simp] theorem State.latchRequest_arrivals (f : List Byte) : (s.latchRequest f).arrivals = s.arrivals := rfl
@[simp] theorem State.latchRequest_draws (f : List Byte) : (s.latchRequest f).draws = s.draws := rfl
@[simp] theorem State.latchRequest_outstandingAddress (f : List Byte) : (s.latchRequest f).outstandingAddress = s.outstandingAddress := rfl
@[simp] theorem State.latchRequest_outstandingCount (f : List Byte) : (s.latchRequest f).outstandingCount = s.outstandingCount := rfl
@[simp] theorem State.latchRequest_result (f : List Byte) : (s.latchRequest f).result = s.result := rfl
@[simp] theorem State.latchRequest_inbox (f : List Byte) : (s.latchRequest f).inbox = s.inbox := rfl

/-! ## `deliver` -/

@[simp] theorem State.deliver_crc (fs : List Word32) : (s.deliver fs).crc = s.crc := rfl
@[simp] theorem State.deliver_txf (fs : List Word32) : (s.deliver fs).txf = s.txf := rfl
@[simp] theorem State.deliver_txv (fs : List Word32) : (s.deliver fs).txv = s.txv := rfl
@[simp] theorem State.deliver_fout (fs : List Word32) : (s.deliver fs).fout = fs := rfl
@[simp] theorem State.deliver_rv (fs : List Word32) : (s.deliver fs).rv = true := rfl
@[simp] theorem State.deliver_err (fs : List Word32) : (s.deliver fs).err = 0 := rfl
@[simp] theorem State.deliver_link (fs : List Word32) : (s.deliver fs).link = s.link := rfl
@[simp] theorem State.deliver_wire (fs : List Word32) : (s.deliver fs).wire = s.wire := rfl
@[simp] theorem State.deliver_arrivals (fs : List Word32) : (s.deliver fs).arrivals = s.arrivals := rfl
@[simp] theorem State.deliver_draws (fs : List Word32) : (s.deliver fs).draws = s.draws := rfl
@[simp] theorem State.deliver_outstandingAddress (fs : List Word32) : (s.deliver fs).outstandingAddress = s.outstandingAddress := rfl
@[simp] theorem State.deliver_outstandingCount (fs : List Word32) : (s.deliver fs).outstandingCount = s.outstandingCount := rfl
@[simp] theorem State.deliver_result (fs : List Word32) : (s.deliver fs).result = s.result := rfl
@[simp] theorem State.deliver_inbox (fs : List Word32) : (s.deliver fs).inbox = s.inbox := rfl

/-! ## `takeError` -/

@[simp] theorem State.takeError_crc (k : ErrKind) : (s.takeError k).crc = s.crc := rfl
@[simp] theorem State.takeError_txf (k : ErrKind) : (s.takeError k).txf = s.txf := rfl
@[simp] theorem State.takeError_txv (k : ErrKind) : (s.takeError k).txv = s.txv := rfl
@[simp] theorem State.takeError_fout (k : ErrKind) : (s.takeError k).fout = [] := rfl
@[simp] theorem State.takeError_rv (k : ErrKind) : (s.takeError k).rv = false := rfl
@[simp] theorem State.takeError_err (k : ErrKind) : (s.takeError k).err = errCode k := rfl
@[simp] theorem State.takeError_link (k : ErrKind) : (s.takeError k).link = s.link := rfl
@[simp] theorem State.takeError_wire (k : ErrKind) : (s.takeError k).wire = s.wire := rfl
@[simp] theorem State.takeError_arrivals (k : ErrKind) : (s.takeError k).arrivals = s.arrivals := rfl
@[simp] theorem State.takeError_draws (k : ErrKind) : (s.takeError k).draws = s.draws := rfl
@[simp] theorem State.takeError_outstandingAddress (k : ErrKind) : (s.takeError k).outstandingAddress = s.outstandingAddress := rfl
@[simp] theorem State.takeError_outstandingCount (k : ErrKind) : (s.takeError k).outstandingCount = s.outstandingCount := rfl
@[simp] theorem State.takeError_result (k : ErrKind) : (s.takeError k).result = s.result := rfl
@[simp] theorem State.takeError_inbox (k : ErrKind) : (s.takeError k).inbox = s.inbox := rfl

/-! ## `transportWrite` -/

@[simp] theorem State.transportWrite_crc (f : List Byte) : (s.transportWrite f).crc = s.crc := rfl
@[simp] theorem State.transportWrite_txf (f : List Byte) : (s.transportWrite f).txf = s.txf := rfl
@[simp] theorem State.transportWrite_txv (f : List Byte) : (s.transportWrite f).txv = s.txv := rfl
@[simp] theorem State.transportWrite_fout (f : List Byte) : (s.transportWrite f).fout = s.fout := rfl
@[simp] theorem State.transportWrite_rv (f : List Byte) : (s.transportWrite f).rv = s.rv := rfl
@[simp] theorem State.transportWrite_err (f : List Byte) : (s.transportWrite f).err = s.err := rfl
@[simp] theorem State.transportWrite_link (f : List Byte) : (s.transportWrite f).link = s.link := rfl
@[simp] theorem State.transportWrite_wire (f : List Byte) : (s.transportWrite f).wire = s.wire ++ [f] := rfl
@[simp] theorem State.transportWrite_arrivals (f : List Byte) : (s.transportWrite f).arrivals = s.arrivals := rfl
@[simp] theorem State.transportWrite_draws (f : List Byte) : (s.transportWrite f).draws = s.draws := rfl
@[simp] theorem State.transportWrite_outstandingAddress (f : List Byte) : (s.transportWrite f).outstandingAddress = s.outstandingAddress := rfl
@[simp] theorem State.transportWrite_outstandingCount (f : List Byte) : (s.transportWrite f).outstandingCount = s.outstandingCount := rfl
@[simp] theorem State.transportWrite_result (f : List Byte) : (s.transportWrite f).result = s.result := rfl
@[simp] theorem State.transportWrite_inbox (f : List Byte) : (s.transportWrite f).inbox = s.inbox := rfl

/-! ## `expectReply` -/

@[simp] theorem State.expectReply_crc (a : Byte) (n : Word16) : (s.expectReply a n).crc = s.crc := rfl
@[simp] theorem State.expectReply_txf (a : Byte) (n : Word16) : (s.expectReply a n).txf = s.txf := rfl
@[simp] theorem State.expectReply_txv (a : Byte) (n : Word16) : (s.expectReply a n).txv = s.txv := rfl
@[simp] theorem State.expectReply_fout (a : Byte) (n : Word16) : (s.expectReply a n).fout = s.fout := rfl
@[simp] theorem State.expectReply_rv (a : Byte) (n : Word16) : (s.expectReply a n).rv = s.rv := rfl
@[simp] theorem State.expectReply_err (a : Byte) (n : Word16) : (s.expectReply a n).err = s.err := rfl
@[simp] theorem State.expectReply_link (a : Byte) (n : Word16) : (s.expectReply a n).link = s.link := rfl
@[simp] theorem State.expectReply_wire (a : Byte) (n : Word16) : (s.expectReply a n).wire = s.wire := rfl
@[simp] theorem State.expectReply_arrivals (a : Byte) (n : Word16) : (s.expectReply a n).arrivals = s.arrivals := rfl
@[simp] theorem State.expectReply_draws (a : Byte) (n : Word16) : (s.expectReply a n).draws = s.draws := rfl
@[simp] theorem State.expectReply_outstandingAddress (a : Byte) (n : Word16) : (s.expectReply a n).outstandingAddress = a := rfl
@[simp] theorem State.expectReply_outstandingCount (a : Byte) (n : Word16) : (s.expectReply a n).outstandingCount = n := rfl
@[simp] theorem State.expectReply_result (a : Byte) (n : Word16) : (s.expectReply a n).result = s.result := rfl
@[simp] theorem State.expectReply_inbox (a : Byte) (n : Word16) : (s.expectReply a n).inbox = s.inbox := rfl

/-! ## `withInbox` -/

@[simp] theorem State.withInbox_crc (rest : List HostEvent) : (s.withInbox rest).crc = s.crc := rfl
@[simp] theorem State.withInbox_txf (rest : List HostEvent) : (s.withInbox rest).txf = s.txf := rfl
@[simp] theorem State.withInbox_txv (rest : List HostEvent) : (s.withInbox rest).txv = s.txv := rfl
@[simp] theorem State.withInbox_fout (rest : List HostEvent) : (s.withInbox rest).fout = s.fout := rfl
@[simp] theorem State.withInbox_rv (rest : List HostEvent) : (s.withInbox rest).rv = s.rv := rfl
@[simp] theorem State.withInbox_err (rest : List HostEvent) : (s.withInbox rest).err = s.err := rfl
@[simp] theorem State.withInbox_link (rest : List HostEvent) : (s.withInbox rest).link = s.link := rfl
@[simp] theorem State.withInbox_wire (rest : List HostEvent) : (s.withInbox rest).wire = s.wire := rfl
@[simp] theorem State.withInbox_arrivals (rest : List HostEvent) : (s.withInbox rest).arrivals = s.arrivals := rfl
@[simp] theorem State.withInbox_draws (rest : List HostEvent) : (s.withInbox rest).draws = s.draws := rfl
@[simp] theorem State.withInbox_outstandingAddress (rest : List HostEvent) : (s.withInbox rest).outstandingAddress = s.outstandingAddress := rfl
@[simp] theorem State.withInbox_outstandingCount (rest : List HostEvent) : (s.withInbox rest).outstandingCount = s.outstandingCount := rfl
@[simp] theorem State.withInbox_result (rest : List HostEvent) : (s.withInbox rest).result = s.result := rfl
@[simp] theorem State.withInbox_inbox (rest : List HostEvent) : (s.withInbox rest).inbox = rest := rfl

/-! ## `arrive` -/

@[simp] theorem State.arrive_crc (raw : List Byte) : (s.arrive raw).crc = s.crc := rfl
@[simp] theorem State.arrive_txf (raw : List Byte) : (s.arrive raw).txf = s.txf := rfl
@[simp] theorem State.arrive_txv (raw : List Byte) : (s.arrive raw).txv = s.txv := rfl
@[simp] theorem State.arrive_fout (raw : List Byte) : (s.arrive raw).fout = s.fout := rfl
@[simp] theorem State.arrive_rv (raw : List Byte) : (s.arrive raw).rv = s.rv := rfl
@[simp] theorem State.arrive_err (raw : List Byte) : (s.arrive raw).err = s.err := rfl
@[simp] theorem State.arrive_link (raw : List Byte) : (s.arrive raw).link = s.link := rfl
@[simp] theorem State.arrive_wire (raw : List Byte) : (s.arrive raw).wire = s.wire := rfl
@[simp] theorem State.arrive_arrivals (raw : List Byte) : (s.arrive raw).arrivals = s.arrivals ++ [raw] := rfl
@[simp] theorem State.arrive_draws (raw : List Byte) : (s.arrive raw).draws = s.draws := rfl
@[simp] theorem State.arrive_outstandingAddress (raw : List Byte) : (s.arrive raw).outstandingAddress = s.outstandingAddress := rfl
@[simp] theorem State.arrive_outstandingCount (raw : List Byte) : (s.arrive raw).outstandingCount = s.outstandingCount := rfl
@[simp] theorem State.arrive_result (raw : List Byte) : (s.arrive raw).result = s.result := rfl
@[simp] theorem State.arrive_inbox (raw : List Byte) : (s.arrive raw).inbox = s.inbox := rfl

/-! ## `closeClient` -/

@[simp] theorem State.closeClient_crc : s.closeClient.crc = s.crc := rfl
@[simp] theorem State.closeClient_txf : s.closeClient.txf = s.txf := rfl
@[simp] theorem State.closeClient_txv : s.closeClient.txv = s.txv := rfl
@[simp] theorem State.closeClient_fout : s.closeClient.fout = s.fout := rfl
@[simp] theorem State.closeClient_rv : s.closeClient.rv = s.rv := rfl
@[simp] theorem State.closeClient_err : s.closeClient.err = s.err := rfl
@[simp] theorem State.closeClient_link : s.closeClient.link = .released := rfl
@[simp] theorem State.closeClient_wire : s.closeClient.wire = s.wire := rfl
@[simp] theorem State.closeClient_arrivals : s.closeClient.arrivals = s.arrivals := rfl
@[simp] theorem State.closeClient_draws : s.closeClient.draws = s.draws := rfl
@[simp] theorem State.closeClient_outstandingAddress : s.closeClient.outstandingAddress = s.outstandingAddress := rfl
@[simp] theorem State.closeClient_outstandingCount : s.closeClient.outstandingCount = s.outstandingCount := rfl
@[simp] theorem State.closeClient_result : s.closeClient.result = .none := rfl
@[simp] theorem State.closeClient_inbox : s.closeClient.inbox = s.inbox := rfl

/-! ## `resetBlock` -/

@[simp] theorem State.resetBlock_crc : s.resetBlock.crc = 0xFFFF := rfl
@[simp] theorem State.resetBlock_txf : s.resetBlock.txf = [0, 0, 0, 0, 0, 0, 0, 0] := rfl
@[simp] theorem State.resetBlock_txv : s.resetBlock.txv = false := rfl
@[simp] theorem State.resetBlock_fout : s.resetBlock.fout = [] := rfl
@[simp] theorem State.resetBlock_rv : s.resetBlock.rv = false := rfl
@[simp] theorem State.resetBlock_err : s.resetBlock.err = 0 := rfl
@[simp] theorem State.resetBlock_link : s.resetBlock.link = s.link := rfl
@[simp] theorem State.resetBlock_wire : s.resetBlock.wire = s.wire := rfl
@[simp] theorem State.resetBlock_arrivals : s.resetBlock.arrivals = s.arrivals := rfl
@[simp] theorem State.resetBlock_draws : s.resetBlock.draws = s.draws := rfl
@[simp] theorem State.resetBlock_outstandingAddress : s.resetBlock.outstandingAddress = s.outstandingAddress := rfl
@[simp] theorem State.resetBlock_outstandingCount : s.resetBlock.outstandingCount = s.outstandingCount := rfl
@[simp] theorem State.resetBlock_result : s.resetBlock.result = .none := rfl
@[simp] theorem State.resetBlock_inbox : s.resetBlock.inbox = s.inbox := rfl

/-! ## `afterRead` -/

@[simp] theorem State.afterRead_crc : s.afterRead.crc = s.crc := by unfold State.afterRead; split <;> rfl
@[simp] theorem State.afterRead_txf : s.afterRead.txf = s.txf := by unfold State.afterRead; split <;> rfl
@[simp] theorem State.afterRead_txv : s.afterRead.txv = s.txv := by unfold State.afterRead; split <;> rfl
@[simp] theorem State.afterRead_fout : s.afterRead.fout = s.fout := by unfold State.afterRead; split <;> rfl
@[simp] theorem State.afterRead_rv : s.afterRead.rv = s.rv := by unfold State.afterRead; split <;> rfl
@[simp] theorem State.afterRead_err : s.afterRead.err = s.err := by unfold State.afterRead; split <;> rfl
@[simp] theorem State.afterRead_link : s.afterRead.link = s.link := by unfold State.afterRead; split <;> rfl
@[simp] theorem State.afterRead_wire : s.afterRead.wire = s.wire := by unfold State.afterRead; split <;> rfl
@[simp] theorem State.afterRead_outstandingAddress : s.afterRead.outstandingAddress = s.outstandingAddress := by unfold State.afterRead; split <;> rfl
@[simp] theorem State.afterRead_outstandingCount : s.afterRead.outstandingCount = s.outstandingCount := by unfold State.afterRead; split <;> rfl
@[simp] theorem State.afterRead_result : s.afterRead.result = s.result := by unfold State.afterRead; split <;> rfl
@[simp] theorem State.afterRead_inbox : s.afterRead.inbox = s.inbox := by unfold State.afterRead; split <;> rfl
@[simp] theorem State.afterRead_arrivals : s.afterRead.arrivals = s.arrivals.drop 1 := by
  unfold State.afterRead; split <;> simp_all
@[simp] theorem State.afterRead_draws : s.afterRead.draws = if s.arrivals = [] then s.draws + 1 else s.draws := by
  unfold State.afterRead; split <;> simp_all

/-! ## `openClient` -/

@[simp] theorem State.openClient_crc (b : Bool) : (s.openClient b).crc = s.crc := by cases b <;> rfl
@[simp] theorem State.openClient_txf (b : Bool) : (s.openClient b).txf = s.txf := by cases b <;> rfl
@[simp] theorem State.openClient_txv (b : Bool) : (s.openClient b).txv = s.txv := by cases b <;> rfl
@[simp] theorem State.openClient_fout (b : Bool) : (s.openClient b).fout = s.fout := by cases b <;> rfl
@[simp] theorem State.openClient_rv (b : Bool) : (s.openClient b).rv = s.rv := by cases b <;> rfl
@[simp] theorem State.openClient_err (b : Bool) : (s.openClient b).err = s.err := by cases b <;> rfl
@[simp] theorem State.openClient_wire (b : Bool) : (s.openClient b).wire = s.wire := by cases b <;> rfl
@[simp] theorem State.openClient_arrivals (b : Bool) : (s.openClient b).arrivals = s.arrivals := by cases b <;> rfl
@[simp] theorem State.openClient_draws (b : Bool) : (s.openClient b).draws = s.draws := by cases b <;> rfl
@[simp] theorem State.openClient_outstandingAddress (b : Bool) : (s.openClient b).outstandingAddress = s.outstandingAddress := by cases b <;> rfl
@[simp] theorem State.openClient_outstandingCount (b : Bool) : (s.openClient b).outstandingCount = s.outstandingCount := by cases b <;> rfl
@[simp] theorem State.openClient_inbox (b : Bool) : (s.openClient b).inbox = s.inbox := by cases b <;> rfl
@[simp] theorem State.openClient_link (b : Bool) : (s.openClient b).link = if b then .opened else .failed := by
  cases b <;> rfl
@[simp] theorem State.openClient_result (b : Bool) :
    (s.openClient b).result = if b then .none else .connectionError := by cases b <;> rfl

end Sys2Proof.Machine
end

