-- ==== Sys2Proof/Laws/Ops.lean ====
section
/-! SUPPORT. Each shared operation of Machine/Ops.lean, said once: what it writes and what it leaves alone. -/

namespace Sys2Proof.Machine

variable (s : State)

/-- All that building a frame does. -/
theorem State.buildFrame_eq (a : Byte) (start count : Word16) :
    s.buildFrame a start count =
      { s with
        txf := buildRequest a start count, txv := true, crc := crc16 (requestHead a start count),
        result := .bytes (buildRequest a start count) } := rfl

/-- All that building and writing a request does. -/
theorem State.sendRequest_eq (a : Byte) (start count : Word16) :
    s.sendRequest a start count =
      { s with
        txf := buildRequest a start count, txv := true, crc := crc16 (requestHead a start count),
        result := .bytes (buildRequest a start count), wire := s.wire ++ [buildRequest a start count],
        outstandingAddress := a, outstandingCount := count } := rfl

/-- All that a parse does to the state, in one equation. -/
theorem State.parseFrame_eq (raw : List Byte) (ea ef : Byte) (en : Word16) :
    s.parseFrame raw ea ef en =
      ({ s with crc := if raw.length = expectedLength en then crc16 (frameBody raw) else s.crc } : State).finishParse
        (parseResponse raw ea ef en) := by
  unfold State.parseFrame State.parseChecksum State.setCrc
  split <;> rfl

/-- A parse that succeeds. -/
theorem State.finishParse_ok (fs : List Word32) :
    s.finishParse (.ok fs) = { s with fout := fs, rv := true, err := 0, result := .floats fs } := rfl

/-- A parse that fails: the error entry of R185. -/
theorem State.finishParse_err (k : ErrKind) :
    s.finishParse (.err k) = { s with fout := [], rv := false, err := errCode k, result := .error k } := rfl

/-- A read delivers at most what was asked for (spec/44_host_sequences.md R161, R163). -/
theorem State.readBytes_length_le (n : Nat) : (s.readBytes n).length ≤ n := by
  unfold State.readBytes
  split <;> exact List.length_take_le ..

/-- A read of bytes the environment has fixed. -/
theorem State.readBytes_arrived (n : Nat) (raw : List Byte) (rest : List (List Byte))
    (h : s.arrivals = raw :: rest) : s.readBytes n = raw.take n := by
  simp [State.readBytes, h]

/-- Writing a request does not change what a read returns. -/
theorem State.requested_readBytes (start : Word16) (n : Nat) : (s.requested start).readBytes n = s.readBytes n := rfl

theorem State.withClient_opened (t : State) (h : s.link = .opened) : s.withClient t = .next t := by
  simp [State.withClient, h]

theorem State.withClient_unusable (t : State) (h : s.link ≠ .opened) : s.withClient t = .fault .clientUnusable := by
  simp [State.withClient, h]

/-- If an instruction that needs the client completes, the client is open and the state is the one given. -/
theorem State.withClient_next (t u : State) (h : s.withClient t = .next u) : s.link = .opened ∧ u = t := by
  unfold State.withClient at h
  split at h
  · next hl => exact ⟨hl, by simpa using h.symm⟩
  · simp at h

end Sys2Proof.Machine
end

