-- ==== Sys2Proof/Laws/PerInstr.lean ====
section
/-! SUPPORT. Per instruction: its encoding has the format, and the fixed bits, of its row in spec/opcode_table.json. -/

namespace Sys2Proof.Laws.TableRow

/-- A row of the opcode table: its format, and its mask and match byte by byte, first byte first. -/
structure Row where
  format : Format
  mask : List Byte
  bits : List Byte

/-- A command row: its code under the mask `0xFF`. -/
def command (code : Byte) : Row := ⟨.cmd, [0xFF], [code]⟩

/-- An operation's row: the whole request frame under a mask of ones. -/
def operation (frame : List Byte) : Row := ⟨.pseudo, List.replicate 8 0xFF, frame⟩

/-- The row of an instruction, copied from the table. -/
def row (i : Instr) : Row :=
  match i with
  | .crcInit => command 0x01
  | .crcUpdate _ => command 0x02
  | .crcCompute _ => command 0x03
  | .crcEmit => command 0x04
  | .crcCheck _ => command 0x05
  | .reqBuild _ _ _ => command 0x10
  | .rspParse _ _ _ _ => command 0x20
  | .readRequest _ _ _ => ⟨.req8, [0, 0xFF, 0, 0, 0, 0, 0, 0], [0, 0x03, 0, 0, 0, 0, 0, 0]⟩
  | .readResponse _ _ _ _ => ⟨.rspv, [0, 0xFF, 0], [0, 0x03, 0]⟩
  | .getPower => operation [0x01, 0x03, 0x00, 0x00, 0x00, 0x12, 0xC5, 0xC7]
  | .getCurrent => operation [0x01, 0x03, 0x00, 0x00, 0x00, 0x12, 0xC5, 0xC7]
  | .getVoltage => operation [0x01, 0x03, 0x00, 0x02, 0x00, 0x12, 0x64, 0x07]
  | .getFrequency => operation [0x01, 0x03, 0x00, 0x04, 0x00, 0x12, 0x84, 0x06]
  | .getPowerFactor => operation [0x01, 0x03, 0x00, 0x06, 0x00, 0x12, 0x25, 0xC6]
  | .getAnnualPowerConsumption => operation [0x01, 0x03, 0x00, 0x08, 0x00, 0x12, 0x44, 0x05]
  | .getReactivePower => operation [0x01, 0x03, 0x00, 0x0E, 0x00, 0x12, 0xA4, 0x04]
  | .getUptime => operation [0x01, 0x03, 0x00, 0x10, 0x00, 0x12, 0xC4, 0x02]

/-- The encoding of an instruction has its row's format, and its first bytes match the row under the row's mask. -/
def Statement (i : Instr) : Prop :=
  (encode i).format = (row i).format ∧ List.zipWith (· &&& ·) (encode i).bytes (row i).mask = (row i).bits

theorem crcInit : Statement .crcInit := by unfold Statement; decide
theorem crcUpdate (b : Byte) : Statement (.crcUpdate b) := ⟨rfl, by simp [encode, cmdMessage, row, command]; decide⟩
theorem crcCompute (m : List Byte) : Statement (.crcCompute m) := ⟨rfl, by simp [encode, cmdMessage, row, command]; decide⟩
theorem crcEmit : Statement .crcEmit := by unfold Statement; decide
theorem crcCheck (m : List Byte) : Statement (.crcCheck m) := ⟨rfl, by simp [encode, cmdMessage, row, command]; decide⟩
theorem reqBuild (a : Byte) (start count : Word16) : Statement (.reqBuild a start count) :=
  ⟨rfl, by simp [encode, cmdMessage, row, command]; decide⟩
theorem rspParse (raw : List Byte) (ea ef : Byte) (en : Word16) : Statement (.rspParse raw ea ef en) :=
  ⟨rfl, by simp [encode, cmdMessage, row, command]; decide⟩
theorem readRequest (a : Byte) (start count : Word16) : Statement (.readRequest a start count) :=
  ⟨rfl, by simp [encode, row, Machine.buildRequest, Machine.requestHead, Machine.encU16be, Machine.encU16le,
    Config.fcReadHolding]⟩
theorem readResponse (a byteCount : Byte) (payload : List Byte) (c : Word16) :
    Statement (.readResponse a byteCount payload c) :=
  ⟨rfl, by simp [encode, row, Machine.responseFrame, Config.fcReadHolding]⟩
theorem getPower : Statement .getPower := ⟨rfl, by decide +kernel⟩
theorem getCurrent : Statement .getCurrent := ⟨rfl, by decide +kernel⟩
theorem getVoltage : Statement .getVoltage := ⟨rfl, by decide +kernel⟩
theorem getFrequency : Statement .getFrequency := ⟨rfl, by decide +kernel⟩
theorem getPowerFactor : Statement .getPowerFactor := ⟨rfl, by decide +kernel⟩
theorem getAnnualPowerConsumption : Statement .getAnnualPowerConsumption := ⟨rfl, by decide +kernel⟩
theorem getReactivePower : Statement .getReactivePower := ⟨rfl, by decide +kernel⟩
theorem getUptime : Statement .getUptime := ⟨rfl, by decide +kernel⟩

end Sys2Proof.Laws.TableRow
end

