-- ==== Sys2Proof/Tests/Slice0.lean ====
section
/-! SUPPORT. Tests against the vectors of spec/95_test_vectors.md (named V1 to V42, E1 to E7) and words written out from the encodings
of spec/30_encoding.md; and for each statement with hypotheses a witness that meets them. -/

namespace Sys2Proof.Tests

open Sys2Proof.Machine

/-- A field of the state an instruction leaves. -/
def after (i : Instr) (s : State) {α : Type} (f : State → α) : Option α :=
  match exec i s with
  | .next t => some (f t)
  | .fault _ => none
  | .refused _ => none

/-- A field of the state a step leaves. -/
def afterStep (s : State) {α : Type} (f : State → α) : Option α :=
  match step s with
  | .next t => some (f t)
  | .fault _ => none
  | .refused _ => none

/-- The reset state with some events waiting. -/
def waiting (es : List HostEvent) : State := { State.reset with inbox := es }

/-- The payload of V30. -/
def payload30 : List Byte :=
  [0x00, 0x50, 0x9A, 0x44, 0x66, 0x66, 0xD6, 0x40, 0x9A, 0x19, 0x66, 0x43, 0x00, 0x00, 0x48, 0x42, 0x48, 0xE1, 0x7A, 0x3F,
   0x9A, 0x09, 0x96, 0x44, 0x66, 0xC6, 0x8F, 0x44, 0x33, 0x33, 0xF3, 0x41, 0x00, 0x00, 0xB4, 0x44]

/-- The 41-byte frame of V30. -/
def frame30 : List Byte := [0x01, 0x03, 0x24] ++ payload30 ++ [0x10, 0xA6]

/-- The nine patterns of V30. -/
def floats30 : List Word32 :=
  [0x449A5000, 0x40D66666, 0x4366199A, 0x42480000, 0x3F7AE148, 0x4496099A, 0x448FC666, 0x41F33333, 0x44B40000]

/-- The frame of V31. -/
def frame31 : List Byte := [0x01, 0x03, 0x04, 0x00, 0x00, 0x20, 0x41, 0x23, 0xC3]

/-- The frame of V37: V31 with a wrong `byteCount`. -/
def frame37 : List Byte := [0x01, 0x03, 0x7F, 0x00, 0x00, 0x20, 0x41, 0xC7, 0xC9]

/-- The reset state with one reply to come. -/
def replying (raw : List Byte) : State := { State.reset with arrivals := [raw] }

/-- The reset state without a client. -/
def closed : State := { State.reset with link := .failed }

/-! ## Checksum functions (V1 to V12) -/

theorem test_crcShift : [0x0000, 0x0001, 0x0002, 0x0003, 0x8000, 0xFFFF, 0xA001, 0xFFFE, 0x7FFF].map crcShift =
    [0x0000, 0xA001, 0x0001, 0xA000, 0x4000, 0xDFFE, 0xF001, 0x7FFF, 0x9FFE] := by decide +kernel

theorem test_crcByte : crcByte 0xFFFF 0x01 = 0x807E ∧ crcByte 0xFFFF 0x00 = 0x40BF := by decide +kernel

theorem test_crc16_short : crc16 [] = 0xFFFF ∧ crc16 [0xFF] = 0x00FF ∧ crc16 [0x00, 0x00] = 0xB001 ∧
    crc16 [0xFF, 0xFF] = 0x0000 ∧ crc16 [0x01, 0x03] = 0x2140 := by decide +kernel

theorem test_crc16_ascii : crc16 [0x31, 0x32, 0x33, 0x34, 0x35, 0x36, 0x37, 0x38, 0x39] = 0x4B37 := by decide +kernel

theorem test_byte_orders : encU16be 0x1234 = [0x12, 0x34] ∧ encU16le 0xC7C5 = [0xC5, 0xC7] ∧
    decU16le [0xC5, 0xC7] = 0xC7C5 ∧ decF32le 0x00 0x00 0x20 0x41 = 0x41200000 := by decide

theorem test_float_reading : floatValue 0x41200000 = .finite 10 ∧ floatValue 0x449A5000 = .finite (2469 / 2) ∧
    floatValue 0xBFC00000 = .finite (-3 / 2) ∧ floatValue 0x80000000 = .negativeZero := by decide +kernel

/-! ## Checksum commands (V13 to V18) -/

theorem test_crcInit : after .crcInit { State.reset with crc := 0x1234 } State.crc = some 0xFFFF := by decide

theorem test_crcUpdate : after (.crcUpdate 0x01) State.reset State.crc = some 0x807E := by decide +kernel

/-- The hazard of V18: the streamed message is lost to the request's checksum. -/
theorem test_crcUpdate_after_build : ((after (.reqBuild 1 0 18) State.reset id).bind
    (fun t => after (.crcUpdate 0x03) t State.crc)) = some 0x5247 := by decide +kernel

theorem test_crcCompute : after (.crcCompute [0x01, 0x03, 0x00, 0x00, 0x00, 0x12]) State.reset State.result =
    some (.word 0xC7C5) := by decide +kernel

theorem test_crcEmit : after .crcEmit { State.reset with crc := 0xC7C5 } (fun t => (t.crc, t.result)) =
    some (0xC7C5, .bytes [0xC5, 0xC7]) := by decide

theorem test_crcCheck_true : after (.crcCheck [0x01, 0x03, 0x00, 0x00, 0x00, 0x12, 0xC5, 0xC7]) State.reset
    (fun t => (t.crc, t.result)) = some (0x0000, .bool true) := by decide +kernel

theorem test_crcCheck_false : after (.crcCheck [0x01, 0x03, 0x00, 0x00, 0x00, 0x12, 0xC5, 0xC6]) State.reset
    (fun t => (t.crc, t.result)) = some (0xC0C1, .bool false) := by decide +kernel

/-! ## Encoder (V20 to V28) -/

theorem test_reqBuild : after (.reqBuild 1 0 18) State.reset (fun t => (t.txf, t.txv, t.crc)) =
    some ([0x01, 0x03, 0x00, 0x00, 0x00, 0x12, 0xC5, 0xC7], true, 0xC7C5) := by decide +kernel

theorem test_reqBuild_extremes : buildRequest 0 0 0 = [0x00, 0x03, 0x00, 0x00, 0x00, 0x00, 0x44, 0x1B] ∧
    buildRequest 255 65535 65535 = [0xFF, 0x03, 0xFF, 0xFF, 0xFF, 0xFF, 0x51, 0x80] ∧
    buildRequest 1 0x1234 0xABCD = [0x01, 0x03, 0x12, 0x34, 0xAB, 0xCD, 0xBF, 0xD9] ∧
    buildRequest 17 107 3 = [0x11, 0x03, 0x00, 0x6B, 0x00, 0x03, 0x76, 0x87] := by decide +kernel

/-! ## Decoder (V30 to V42) -/

theorem test_rspParse_nine_floats : after (.rspParse frame30 1 3 18) State.reset
    (fun t => (t.fout, t.nf, t.rv, t.err, t.crc)) = some (floats30, 9, true, 0, 0xA610) := by decide +kernel

theorem test_rspParse_length_clears : after (.rspParse [] 1 3 18)
    { State.reset with crc := 0xA610, fout := floats30, rv := true } (fun t => (t.fout, t.rv, t.err, t.crc)) =
    some ([], false, 1, 0xA610) := by decide +kernel

theorem test_parse_lengths : parseResponse (frame30.take 40) 1 3 18 = .err .lengthMismatch ∧
    parseResponse (frame30 ++ [0x00]) 1 3 18 = .err .lengthMismatch ∧
    parseResponse frame30 1 3 17 = .err .lengthMismatch ∧
    parseResponse [0x01, 0x03, 0x00, 0x20, 0xF0] 1 3 0 = .ok [] := by decide +kernel

/-- V35: one flipped bit. V36 (a), (c), (d): an address of its own checksum, one without, and the first expected. -/
theorem test_parse_checks : parseResponse ([0x01, 0x03, 0x24, 0x01] ++ frame30.drop 4) 1 3 18 = .err .checksumMismatch ∧
    parseResponse ([0x02, 0x03, 0x24] ++ payload30 ++ [0x0B, 0x12]) 1 3 18 = .err .unexpectedReply ∧
    parseResponse ([0x02] ++ frame30.drop 1) 1 3 18 = .err .checksumMismatch ∧
    parseResponse ([0x02, 0x03, 0x24] ++ payload30 ++ [0x0B, 0x12]) 2 3 18 = .ok floats30 := by decide +kernel

/-- V37, V38, V39: `byteCount` skipped, an odd count, and the echo check before the payload check. -/
theorem test_parse_odd_and_skipped : parseResponse frame37 1 3 2 = .ok [0x41200000] ∧
    parseResponse [0x01, 0x03, 0x02, 0x12, 0x34, 0xB5, 0x33] 1 3 1 = .err .decodeError ∧
    parseResponse [0x09, 0x03, 0x02, 0x12, 0x34, 0x54, 0xF2] 1 3 1 = .err .unexpectedReply := by decide +kernel

/-- V40: special patterns pass through. -/
theorem test_parse_special_floats :
    parseResponse [0x01, 0x03, 0x18, 0x00, 0x00, 0xC0, 0x7F, 0x01, 0x00, 0x80, 0x7F, 0x00, 0x00, 0x80, 0xFF, 0x00, 0x00, 0x00,
      0x80, 0x01, 0x00, 0x00, 0x00, 0xFF, 0xFF, 0x7F, 0x7F, 0x34, 0x31] 1 3 12 =
    .ok [0x7FC00000, 0x7F800001, 0xFF800000, 0x80000000, 0x00000001, 0x7F7FFFFF] := by decide +kernel

/-- V41: a reply the document does not define. -/
theorem test_parse_undefined_reply : parseResponse [0x01, 0x83, 0x02, 0xC0, 0xF1] 1 3 18 = .err .lengthMismatch ∧
    parseResponse [0x01, 0x83, 0x02, 0xC0, 0xF1] 1 3 0 = .err .unexpectedReply ∧
    parseResponse [0x01, 0x83, 0x02, 0xC0, 0xF1] 1 0x83 0 = .ok [] := by decide +kernel

/-! ## Wire frames and operations (V21, V30, P3, R166) -/

theorem test_readRequest : after (.readRequest 1 2 18) State.reset (fun t => (t.wire, t.outstandingCount)) =
    some ([[0x01, 0x03, 0x00, 0x02, 0x00, 0x12, 0x64, 0x07]], 18) := by decide +kernel

theorem test_readResponse : after (.readResponse 1 0x24 payload30 0xA610) State.reset (fun t => (t.fout, t.err)) =
    some (floats30, 0) := by decide +kernel

theorem test_getPower : after .getPower (replying frame30) (fun t => (t.result, t.wire)) =
    some (.number (.finite (2469 / 2)), [[0x01, 0x03, 0x00, 0x00, 0x00, 0x12, 0xC5, 0xC7]]) := by decide +kernel

theorem test_getCurrent : after .getCurrent (replying frame30) State.result =
    some (.number (.finite (67 / 10))) := by decide +kernel

theorem test_getVoltage_wire : after .getVoltage (replying frame30) State.wire =
    some [[0x01, 0x03, 0x00, 0x02, 0x00, 0x12, 0x64, 0x07]] := by decide +kernel

theorem test_getFrequency_wire : after .getFrequency (replying frame30) State.wire =
    some [[0x01, 0x03, 0x00, 0x04, 0x00, 0x12, 0x84, 0x06]] := by decide +kernel

theorem test_getPowerFactor_wire : after .getPowerFactor (replying frame30) State.wire =
    some [[0x01, 0x03, 0x00, 0x06, 0x00, 0x12, 0x25, 0xC6]] := by decide +kernel

theorem test_getAnnualPowerConsumption_wire : after .getAnnualPowerConsumption (replying frame30) State.wire =
    some [[0x01, 0x03, 0x00, 0x08, 0x00, 0x12, 0x44, 0x05]] := by decide +kernel

theorem test_getReactivePower_wire : after .getReactivePower (replying frame30) State.wire =
    some [[0x01, 0x03, 0x00, 0x0E, 0x00, 0x12, 0xA4, 0x04]] := by decide +kernel

theorem test_getUptime_wire : after .getUptime (replying frame30) State.wire =
    some [[0x01, 0x03, 0x00, 0x10, 0x00, 0x12, 0xC4, 0x02]] := by decide +kernel

/-- A short read is LengthMismatch (R181), and the operation reports it (R169). -/
theorem test_getUptime_short_read : after .getUptime (replying (frame30.take 17)) (fun t => (t.result, t.err)) =
    some (.error .lengthMismatch, 1) := by decide +kernel

/-! ## Encodings, one word for each constructor (R81, R82, R95, R166) -/

theorem test_decode_bare : decode ⟨.cmd, [0b00000001]⟩ = .ok .crcInit ∧ decode ⟨.cmd, [0b00000100]⟩ = .ok .crcEmit := by
  decide

theorem test_decode_crc_operands : decode ⟨.cmd, [0b00000010, 0x12]⟩ = .ok (.crcUpdate 0x12) ∧
    decode ⟨.cmd, [0b00000011, 0x01, 0x03]⟩ = .ok (.crcCompute [0x01, 0x03]) ∧
    decode ⟨.cmd, [0b00000101, 0xFF, 0xFF]⟩ = .ok (.crcCheck [0xFF, 0xFF]) := by decide

theorem test_decode_codec : decode ⟨.cmd, [0b00010000, 0x01, 0x00, 0x02, 0x00, 0x12]⟩ = .ok (.reqBuild 1 2 18) ∧
    decode ⟨.cmd, [0b00100000, 0x01, 0x03, 0x00, 0x20, 0xF0, 0x07, 0x08, 0x00, 0x12]⟩ =
      .ok (.rspParse [0x01, 0x03, 0x00, 0x20, 0xF0] 7 8 18) := by decide

theorem test_decode_frames :
    decode ⟨.req8, [0x11, 0x03, 0x00, 0x6B, 0x00, 0x03, 0x76, 0x87]⟩ = .ok (.readRequest 17 107 3) ∧
    decode ⟨.rspv, frame37⟩ = .ok (.readResponse 1 0x7F [0x00, 0x00, 0x20, 0x41] 0xC9C7) := by decide +kernel

theorem test_decode_operations_0 :
    decode ⟨.pseudo, [0x01, 0x03, 0x00, 0x00, 0x00, 0x12, 0xC5, 0xC7, 0]⟩ = .ok .getPower ∧
    decode ⟨.pseudo, [0x01, 0x03, 0x00, 0x00, 0x00, 0x12, 0xC5, 0xC7, 1]⟩ = .ok .getCurrent ∧
    decode ⟨.pseudo, [0x01, 0x03, 0x00, 0x02, 0x00, 0x12, 0x64, 0x07, 0]⟩ = .ok .getVoltage ∧
    decode ⟨.pseudo, [0x01, 0x03, 0x00, 0x04, 0x00, 0x12, 0x84, 0x06, 0]⟩ = .ok .getFrequency := by decide

theorem test_decode_operations_6 :
    decode ⟨.pseudo, [0x01, 0x03, 0x00, 0x06, 0x00, 0x12, 0x25, 0xC6, 0]⟩ = .ok .getPowerFactor ∧
    decode ⟨.pseudo, [0x01, 0x03, 0x00, 0x08, 0x00, 0x12, 0x44, 0x05, 0]⟩ = .ok .getAnnualPowerConsumption ∧
    decode ⟨.pseudo, [0x01, 0x03, 0x00, 0x0E, 0x00, 0x12, 0xA4, 0x04, 0]⟩ = .ok .getReactivePower ∧
    decode ⟨.pseudo, [0x01, 0x03, 0x00, 0x10, 0x00, 0x12, 0xC4, 0x02, 0]⟩ = .ok .getUptime := by decide

theorem test_decode_refuses : decode ⟨.cmd, []⟩ = .error .emptyCommand ∧
    decode ⟨.cmd, [0x06]⟩ = .error (.reservedCode 0x06) ∧ decode ⟨.cmd, [0x02]⟩ = .error (.operandLength 0x02) ∧
    decode ⟨.req8, [0x01, 0x03]⟩ = .error .requestLength ∧
    decode ⟨.req8, [0x01, 0x06, 0x00, 0x00, 0x00, 0x12, 0xC5, 0xC7]⟩ = .error (.functionCode 0x06) ∧
    decode ⟨.rspv, [0x01, 0x03, 0x00, 0x00, 0x00, 0x00]⟩ = .error .responseLength ∧
    decode ⟨.pseudo, [0x01]⟩ = .error .noSuchOperation := by decide

theorem test_decode_refuses_checksum :
    decode ⟨.req8, [0x01, 0x03, 0x00, 0x00, 0x00, 0x12, 0xC7, 0xC5]⟩ = .error .requestChecksum := by decide +kernel

/-- Table words: a command code, a response header, an operation's frame, and a request frame with its checksum. -/
theorem test_table_words : decodeTableWord 8 0x20 = some (.rspParse [] 0 0 0) ∧
    decodeTableWord 8 0x10 = some (.reqBuild 0 0 0) ∧ decodeTableWord 24 0x000300 = some (.readResponse 0 0 [] 0) ∧
    decodeTableWord 64 0x010300100012C402 = some .getUptime ∧
    decodeTableWord 64 0x000300000000441B = some (.readRequest 0 0 0) := by decide +kernel

/-- A table word runs as the first instruction after reset. -/
theorem test_withFetchWord : afterStep (State.reset.withFetchWord 8 0x10) State.txf =
    some [0x00, 0x03, 0x00, 0x00, 0x00, 0x00, 0x44, 0x1B] := by decide +kernel

/-- An operation's word runs as the first instruction after reset, whatever the Transport returns. -/
theorem test_withFetchWord_operation : Completes (step (State.reset.withFetchWord 64 0x010300000012C5C7)) := ⟨_, rfl⟩

/-- With a reply to come, the word's operation returns its number. -/
theorem test_withFetchWord_reply : afterStep ((replying frame30).withFetchWord 64 0x010300000012C5C7) State.result =
    some (.number (.finite (2469 / 2))) := by decide +kernel

/-! ## Well-formedness: an ill-formed term for each check -/

theorem test_illformed_odd_payload : ¬ (Instr.readResponse 1 1 [0x00] 0).WellFormed := by decide

theorem test_illformed_long_payload : ¬ (Instr.readResponse 1 0 (List.replicate 131072 0x00) 0).WellFormed := by
  intro h
  have h2 : (List.replicate 131072 (0x00 : Byte)).length ≤ 131070 := h.2
  rw [List.length_replicate] at h2
  omega

/-! ## The host's accesses -/

theorem test_reads : afterStep (waiting [.readRegister 0]) State.result = some (.word 0xFFFF) ∧
    afterStep { waiting [.readRegister 1] with txv := true, err := 4 } State.result = some (.byte 0x11) ∧
    step (waiting [.readRegister 3]) = .fault .txfNoValue ∧ step (waiting [.readFloat 0]) = .fault .foutNoValue ∧
    step (waiting [.readRegister 5]) = .refused (.noSuchRegister 5) :=
  ⟨by decide, by decide, rfl, rfl, rfl⟩

theorem test_describe : afterStep (waiting [.describe 6]) State.result =
    some (.label "Active Power" (some "KWH, cumulative")) := by decide

/-! ## Witnesses: the hypotheses of each statement can be met -/

theorem witness_ChecksumAlgebra : (0x1200 : Word16).setWidth 8 = (0 : Byte) := by decide

theorem witness_OneFlippedBitChangesChecksum : (0 : Nat) < [(0x01 : Byte)].length ∧ (7 : Nat) < 8 := by decide

theorem witness_OneFlippedBitFailsTheParse : frame31.length = 5 + 2 * (2 : Word16).toNat ∧ crc16 frame31 = 0 ∧
    8 < frame31.length ∧ (7 : Nat) < 8 := by decide +kernel

theorem witness_CrcCheckTestsForZero : [(0xFF : Byte)].length < 2 ∧ ([] : List Byte).length < 2 := by decide

theorem witness_StreamingEqualsCompute :
    (waiting [.issue ⟨.cmd, [0x01]⟩, .issue ⟨.cmd, [0x02, 0x12]⟩, .readRegister 0]).inbox =
    .issue (encode .crcInit) :: ([0x12].map (fun b => .issue (encode (.crcUpdate b))) ++ [.readRegister 0]) := by decide

theorem witness_RequestFrameProperties : buildRequest 255 65535 0 = buildRequest 255 65535 0 := rfl

theorem witness_LatchedFrameDecodesToRequest :
    exec (.reqBuild 255 65535 0) State.reset = .next (State.reset.buildFrame 255 65535 0) := rfl

/-- Two frames that differ in `byteCount` and checksum, with one payload. -/
theorem witness_ParseSuccessCharacterised : parseResponse frame31 1 3 2 = .ok [0x41200000] ∧
    parseResponse frame37 1 3 2 = .ok [0x41200000] ∧
    (frame31.take (frame31.length - 2)).drop 3 = (frame37.take (frame37.length - 2)).drop 3 := by decide +kernel

/-- An odd count, and the largest one. -/
theorem witness_OddCountNeverParses : (1 : Word16).toNat % 2 = 1 ∧ (65535 : Word16).toNat % 2 = 1 := by decide

/-- Results of no float, and of one, with the last index below `en / 2`. -/
theorem witness_ParsedCountIsHalfTheRegisters : parseResponse [0x01, 0x03, 0x00, 0x20, 0xF0] 1 3 0 = .ok [] := by
  decide +kernel

theorem witness_FloatElementsInOrder :
    parseResponse [0x01, 0x03, 0x08, 0x00, 0x00, 0x20, 0x41, 0x00, 0x00, 0xC0, 0xBF, 0xBF, 0x08] 1 3 4 =
      .ok [0x41200000, 0xBFC00000] ∧ 1 < (4 : Word16).toNat / 2 := by decide +kernel

/-- A parse of each kind, and a success. -/
theorem witness_RspParseEffect : parseResponse frame31 1 3 2 = .ok [0x41200000] ∧
    parseResponse [0x01] 1 3 0 = .err .lengthMismatch := by decide +kernel

theorem witness_ErrorEntryLeavesNoFloats : parseResponse [] 1 3 0 = .err .lengthMismatch ∧
    parseResponse [0x01, 0x03, 0x04, 0x00, 0x00, 0x20, 0x41, 0x23, 0x43] 1 3 2 = .err .checksumMismatch ∧
    parseResponse [0x09, 0x03, 0x02, 0x12, 0x34, 0x54, 0xF2] 1 3 1 = .err .unexpectedReply ∧
    parseResponse [0x01, 0x03, 0x06, 0x01, 0x02, 0x03, 0x04, 0x05, 0x06, 0x9B, 0xB3] 1 3 3 = .err .decodeError := by
  decide +kernel

/-- A pattern in each range: exponent 1 and 254, a subnormal, a zero, an infinity and a NaN. -/
theorem witness_FloatPatternReading : ([0x00800000, 0x7F7FFFFF, 0x00000001, 0x80000000, 0xFF800000, 0x7FC00000] :
    List Word32).map (fun w => ((w.extractLsb' 23 8).toNat, (w.extractLsb' 0 23).toNat)) =
    [(1, 0), (254, 8388607), (0, 1), (0, 0), (255, 0), (255, 4194304)] := by decide

theorem witness_CommandWriteSets : (encode .crcEmit).format = .cmd ∧ exec .crcEmit State.reset =
    .next (State.reset.returns (.bytes (encU16le State.reset.crc))) := ⟨rfl, rfl⟩

/-- The clause of a parse of another length. -/
theorem witness_CommandWriteSets_length : ([] : List Byte).length ≠ 5 + 2 * (0 : Word16).toNat ∧
    exec (.rspParse [] 1 3 0) State.reset = .next (State.reset.parseFrame [] 1 3 0) := ⟨by decide, rfl⟩

theorem witness_CommandsReadNoHiddenState : (encode (.crcCompute [0x01])).format = .cmd ∧
    (∀ b, Instr.crcCompute [0x01] ≠ .crcUpdate b) ∧ Instr.crcCompute [0x01] ≠ .crcEmit ∧
    Completes (exec (.crcCompute [0x01]) State.reset) ∧ Completes (exec (.crcCompute [0x01]) closed) :=
  ⟨rfl, by simp, by simp, ⟨_, rfl⟩, ⟨_, rfl⟩⟩

theorem witness_CommandsAreIdempotent : (encode (.reqBuild 1 0 18)).format = .cmd ∧
    (∀ b, Instr.reqBuild 1 0 18 ≠ .crcUpdate b) ∧ Completes (exec (.reqBuild 1 0 18) State.reset) :=
  ⟨rfl, by simp, ⟨_, rfl⟩⟩

theorem witness_EveryInstructionCompletes : State.reset.link = .opened ∧
    (encode (.readResponse 1 0 [] 0)).format = .rspv ∧ (encode .crcInit).format = .cmd := ⟨rfl, rfl, rfl⟩

/-- `RequestFrameGoesOnTheWire` and `OperationsFollowTheirRows` ask for an open Transport alone. -/
theorem witness_RequestFrameGoesOnTheWire : (replying frame30).link = .opened := rfl

/-- A reply with an address other than the outstanding one, and one that parses. -/
theorem witness_ResponseFrameIsParsed :
    parseResponse ([0x01, 0x03, 0x24] ++ payload30 ++ [(0xA610 : Word16).extractLsb' 0 8, (0xA610 : Word16).extractLsb' 8 8])
      State.reset.outstandingAddress 0x03 State.reset.outstandingCount = .ok floats30 ∧
    parseResponse ([0x01, 0x03, 0x00] ++ [] ++ [(0 : Word16).extractLsb' 0 8, (0 : Word16).extractLsb' 8 8])
      State.reset.outstandingAddress 0x03 State.reset.outstandingCount = .err .lengthMismatch := by decide +kernel

theorem witness_AnsweredRequestDeliversFloats : Completes (exec (.readRequest 1 0 18) State.reset) ∧
    (18 : Word16).toNat % 2 = 0 ∧ payload30.length = 2 * (18 : Word16).toNat :=
  ⟨⟨_, rfl⟩, by decide, by decide⟩

/-- A good reply, and a short one. -/
theorem witness_OperationsFollowTheirRows : parseResponse ((replying frame30).readBytes 41) 1 0x03 18 = .ok floats30 ∧
    parseResponse ((replying [0x01]).readBytes 41) 1 0x03 18 = .err .lengthMismatch := by decide +kernel

theorem witness_OperationReturnsNumberOrFailure : (encode .getUptime).format = .pseudo ∧
    Completes (exec .getUptime State.reset) := ⟨rfl, ⟨_, rfl⟩⟩

theorem witness_EndToEndMeasurement :
    ({ State.reset with arrivals := [frame30, frame30] } : State).link = .opened := rfl

theorem witness_RegisterReadsByNumber : (waiting [.readRegister 4]).inbox = [.readRegister 4] := rfl

theorem witness_CountRegisterIsExact : State.reset.Inv := by decide

theorem witness_LatchReadNeedsValidBit : (waiting [.readRegister 3]).txv = false ∧
    ({ waiting [.readRegister 3] with txv := true } : State).txv = true := by decide

/-- An index just below `NF` and one at it. -/
theorem witness_FloatReadNeedsElement :
    ({ waiting [.readFloat 1] with fout := [0, 0] } : State).inbox = .readFloat 1 :: [] ∧ 1 < [(0 : Word32), 0].length ∧
    [(0 : Word32), 0].length ≤ 2 := by decide

theorem witness_ResetEventRestoresBlock : (waiting [.resetBlock]).inbox = .resetBlock :: [] := rfl

/-- The codes next to the listed ones. -/
theorem witness_ReservedCodesAreRefused : ∀ code ∈ ([0x00, 0x06, 0x0F, 0x11, 0x1F, 0x21, 0xFF] : List Byte),
    code ∉ ([0x01, 0x02, 0x03, 0x04, 0x05, 0x10, 0x20] : List Byte) := by decide

theorem witness_TwoHostsAreRefused : (waiting [.issueTogether ⟨.cmd, [0x01]⟩ ⟨.cmd, [0x01]⟩]).inbox =
    .issueTogether ⟨.cmd, [0x01]⟩ ⟨.cmd, [0x01]⟩ :: [] := rfl

/-- Index 8 has a label and index 9 is outside. -/
theorem witness_RegisterMapLabels : registerMap[8]? = some ("Load Time", some "mins") ∧ 8 < 9 := by decide

theorem witness_ConnectionErrorIsFatal : (waiting [.openClient false]).inbox = .openClient false :: [] ∧
    closed.link ≠ .opened ∧ (encode (.readRequest 1 0 18)).format = .req8 ∧
    (encode .getPower).format = .pseudo := by decide

theorem witness_StepRunsDecodedInstruction : (waiting [.issue ⟨.cmd, [0x04]⟩]).inbox = .issue ⟨.cmd, [0x04]⟩ :: [] ∧
    decode ⟨.cmd, [0x04]⟩ = .ok .crcEmit ∧ State.reset.inbox = [] := by decide

theorem witness_DecodeUndoesEncode : (Instr.readResponse 1 0x24 payload30 0xA610).WellFormed := by decide

theorem witness_EncodeUndoesDecode : decode ⟨.rspv, [0xFF, 0x03, 0x00, 0xFF, 0xFF]⟩ =
    .ok (.readResponse 0xFF 0x00 [] 0xFFFF) := by decide

theorem witness_StepKeepsInvariant : (waiting [.issue ⟨.cmd, [0x01]⟩]).Inv ∧
    Completes (step (waiting [.issue ⟨.cmd, [0x01]⟩])) := ⟨by decide, ⟨_, rfl⟩⟩

theorem witness_OnlyResetClearsLatchValid :
    afterStep { waiting [.resetBlock] with txv := true } State.txv = some false := by decide

theorem witness_StepWritesAtMostOneFrame : afterStep (State.reset.withFetchWord 64 0x000300000000441B) State.wire =
    some [[0x00, 0x03, 0x00, 0x00, 0x00, 0x00, 0x44, 0x1B]] := by decide +kernel

end Sys2Proof.Tests
end

section
/-! The checksum of a message followed by its own checksum (spec/41_crc.md R119): while the low bits are zero a shift only
moves the register down, so the low trailer byte brings the high byte down and the high trailer byte then clears it. -/

namespace Sys2Proof.Machine

/-- A shift of an even register does not meet the polynomial (R110). -/
theorem crcShift_of_even {r : Word16} (h : r.getLsbD 0 = false) : crcShift r = r >>> 1 :=
  if_neg (ne_true_of_eq_false h)

/-- As many shifts as the register has low zero bits only move it down (R121 (d)). -/
theorem crcShifts_of_low_zeros (n : Nat) (r : Word16) (h : ∀ i < n, r.getLsbD i = false) :
    crcShifts n r = r >>> n := by
  induction n generalizing r with
  | zero => simp [crcShifts]
  | succ n ih =>
    have hrest : ∀ i < n, (r >>> 1).getLsbD i = false := fun i hi => by
      simpa [Nat.add_comm] using h (i + 1) (by omega)
    rw [crcShifts, crcShift_of_even (h 0 (by omega)), ih _ hrest, ← BitVec.shiftRight_add, Nat.add_comm]

/-- Absorbing the register's own low byte leaves its high byte, moved down. -/
theorem crcByte_own_low_byte (r : Word16) : crcByte r (r.extractLsb' 0 8) = r >>> 8 := by
  have hlow : ∀ i < 8, (r ^^^ (r.extractLsb' 0 8).setWidth 16).getLsbD i = false := fun i hi => by
    simp [hi, show i < 16 by omega]
  rw [crcByte, Config.shiftsPerByte, crcShifts_of_low_zeros 8 _ hlow]
  ext i hi
  simp

/-- Absorbing the byte that is all the register holds clears it (R121 (c)). -/
theorem crcByte_own_high_byte (r : Word16) : crcByte (r >>> 8) (r.extractLsb' 8 8) = 0 := by
  have hzero : (r >>> 8) ^^^ (r.extractLsb' 8 8).setWidth 16 = 0 := by
    ext i hi
    by_cases h8 : i < 8
    · simp [h8]
    · simp [h8, show 16 ≤ 8 + i by omega]
  rw [crcByte, hzero, Config.shiftsPerByte, crcShifts_of_low_zeros 8 0 (by simp)]
  simp

/-- R119: the register is cleared by its own two bytes, low byte first. -/
theorem crcBytes_own_bytes (r : Word16) : crcBytes r (encU16le r) = 0 := by
  simp only [encU16le, crcBytes_cons, crcBytes_nil, crcByte_own_low_byte, crcByte_own_high_byte]

/-- R119 for a whole message. -/
theorem crc16_append_own_checksum (m : List Byte) : crc16 (m ++ encU16le (crc16 m)) = 0 := by
  rw [crc16, crcBytes_append]
  exact crcBytes_own_bytes _

end Sys2Proof.Machine
end

section
/-! What the two codec functions give the latches: a request frame and a bounded list of floats. -/

namespace Sys2Proof.Machine

/-- R132 (b): the checksum of a request frame is right. -/
theorem crc16_buildRequest (a : Byte) (start count : Word16) : crc16 (buildRequest a start count) = 0 :=
  crc16_append_own_checksum _

/-- R132 (c): byte 1 of a request frame is the function code. -/
theorem buildRequest_function (a : Byte) (start count : Word16) :
    (buildRequest a start count)[1]? = some Config.fcReadHolding := rfl

/-- A parse that succeeds delivers `en / 2` floats (R149). -/
theorem parseResponse_ok_length {raw : List Byte} {ea ef : Byte} {en : Word16} {fs : List Word32}
    (h : parseResponse raw ea ef en = .ok fs) : fs.length = en.toNat / 2 := by
  obtain ⟨-, he⟩ | ⟨-, -, he⟩ | ⟨-, -, -, he⟩ | ⟨-, -, -, -, -, he⟩ | ⟨hlen, -, -, -, -, he⟩ :=
    parseResponse_cases raw ea ef en <;> cases he.symm.trans h
  rw [decF32s_length, framePayload_length, hlen, expectedLength]
  omega

/-- The bound of R22 on a successful result. -/
theorem parseResponse_ok_fits {raw : List Byte} {ea ef : Byte} {en : Word16} {fs : List Word32}
    (h : parseResponse raw ea ef en = .ok fs) : fs.length ≤ 32767 := by
  have hlen := parseResponse_ok_length h
  have hen := en.isLt
  omega

/-- R180: the codes of the error kinds are 1 to 4. -/
theorem errCode_le (k : ErrKind) : (errCode k).toNat ≤ 4 := by
  cases k <;> decide

end Sys2Proof.Machine
end

section
/-! A parse on the state, said once: what it writes, what it leaves alone, and that it reads no latch. -/

namespace Sys2Proof.Machine

variable (s : State) (raw : List Byte) (ea ef : Byte) (en : Word16)

/-- R145: a parse writes `CRC` exactly when the length check has passed. -/
@[simp] theorem State.parseFrame_crc :
    (s.parseFrame raw ea ef en).crc = if raw.length = expectedLength en then crc16 (frameBody raw) else s.crc := by
  rw [State.parseFrame_eq]
  cases parseResponse raw ea ef en <;> rfl

/-- A parse that succeeds, from any state (R145). -/
theorem State.parseFrame_of_ok {fs : List Word32} (h : parseResponse raw ea ef en = .ok fs) :
    s.parseFrame raw ea ef en = ((s.parseChecksum raw en).deliver fs).returns (.floats fs) := by
  rw [State.parseFrame, h, State.finishParse]

/-- A parse that fails, from any state (R185). -/
theorem State.parseFrame_of_err {k : ErrKind} (h : parseResponse raw ea ef en = .err k) :
    s.parseFrame raw ea ef en = ((s.parseChecksum raw en).takeError k).returns (.error k) := by
  rw [State.parseFrame, h, State.finishParse]

/-- What a parse leaves alone: the request latch and all of the system around the block (R35, R145). -/
theorem State.parseFrame_frame :
    let t := s.parseFrame raw ea ef en
    t.txf = s.txf ∧ t.txv = s.txv ∧ t.link = s.link ∧ t.wire = s.wire ∧ t.arrivals = s.arrivals ∧ t.draws = s.draws ∧
      t.outstandingAddress = s.outstandingAddress ∧ t.outstandingCount = s.outstandingCount ∧ t.inbox = s.inbox := by
  rw [State.parseFrame_eq]
  cases parseResponse raw ea ef en <;> exact ⟨rfl, rfl, rfl, rfl, rfl, rfl, rfl, rfl, rfl⟩

/-- What a parse returns and delivers is a function of its operands alone (R32). -/
theorem State.parseFrame_agrees (s' : State) :
    let t := s.parseFrame raw ea ef en
    let t' := s'.parseFrame raw ea ef en
    t.result = t'.result ∧ t.fout = t'.fout ∧ t.rv = t'.rv ∧ t.err = t'.err := by
  cases h : parseResponse raw ea ef en <;> simp [State.parseFrame_of_ok, State.parseFrame_of_err, h]

end Sys2Proof.Machine
end

section
/-! What an instruction and a step can do, said once: every state an instruction or a step completes with is one of these. -/

namespace Sys2Proof.Machine

/-- The states an instruction can complete with. -/
inductive ExecResult (s : State) : State → Prop where
  /-- A checksum command (R114 to R118); `CRC.EMIT` writes back the value that stands there. -/
  | checksum (c : Word16) (r : Result) : ExecResult s ((s.setCrc c).returns r)
  /-- `REQ.BUILD` (R131). -/
  | built (a : Byte) (start count : Word16) : ExecResult s (s.buildFrame a start count)
  /-- `RSP.PARSE` or a response frame (R145). -/
  | parsed (raw : List Byte) (ea ef : Byte) (en : Word16) : ExecResult s (s.parseFrame raw ea ef en)
  /-- A request frame, over an open Transport (R161). -/
  | requested (a : Byte) (start count : Word16) (hlink : s.link = .opened) :
      ExecResult s ((s.sendRequest a start count).returns .none)
  /-- A MeterClient operation, over an open Transport (R164). -/
  | measured (start : Word16) (index decimals : Nat) (hlink : s.link = .opened) :
      ExecResult s (s.measure start index decimals)

/-- An operation's sequence completes only over an open Transport. -/
theorem ExecResult.of_measure {s t : State} {start : Word16} {index decimals : Nat}
    (h : s.withClient (s.measure start index decimals) = .next t) : ExecResult s t := by
  obtain ⟨hlink, rfl⟩ := s.withClient_next _ _ h
  exact .measured start index decimals hlink

/-- Every completed instruction is one of the cases of `ExecResult`. -/
theorem exec_result {i : Instr} {s t : State} (h : exec i s = .next t) : ExecResult s t := by
  cases i with
  | crcInit | crcUpdate b | crcCompute m | crcCheck m => cases h; exact .checksum _ _
  | crcEmit => cases h; exact .checksum s.crc _
  | reqBuild a start count => cases h; exact .built a start count
  | rspParse raw ea ef en => cases h; exact .parsed raw ea ef en
  | readResponse a byteCount payload c => cases h; exact .parsed _ _ _ _
  | readRequest a start count =>
    obtain ⟨hlink, rfl⟩ := s.withClient_next _ _ h
    exact .requested a start count hlink
  | getPower | getCurrent | getVoltage | getFrequency | getPowerFactor | getAnnualPowerConsumption
  | getReactivePower | getUptime => exact .of_measure h

/-- The states an event can complete with, from the state it has been taken from. -/
inductive EventResult (s : State) : HostEvent → State → Prop where
  /-- A message that is an instruction runs as that instruction (R60, R200). -/
  | ran {m : Message} {i : Instr} {t : State} (hdec : decode m = .ok i) (hexec : exec i s = .next t) :
      EventResult s (.issue m) t
  /-- A host read of a register returns a value and changes nothing else (R26, R61). -/
  | register (number : Nat) (r : Result) : EventResult s (.readRegister number) (s.returns r)
  /-- A host read of an element of `FOUT` returns a value and changes nothing else (R218). -/
  | element (index : Nat) (r : Result) : EventResult s (.readFloat index) (s.returns r)
  /-- A `describe` returns a label and changes nothing else (R168). -/
  | described (index : Nat) (r : Result) : EventResult s (.describe index) (s.returns r)
  /-- A reset (R210). -/
  | reset : EventResult s .resetBlock s.resetBlock
  /-- The environment fixes what a coming read returns (R163). -/
  | arrived (raw : List Byte) : EventResult s (.arrive raw) (s.arrive raw)
  /-- A client is constructed (R162). -/
  | opened (b : Bool) : EventResult s (.openClient b) (s.openClient b)
  /-- The client is torn down (R162). -/
  | closed : EventResult s .closeClient s.closeClient

/-- A host read of a register that completes returns a value and changes nothing else (R26, R61). -/
theorem readRegister_next {n : Nat} {s t : State} (h : readRegister n s = .next t) : ∃ r, t = s.returns r := by
  unfold readRegister at h
  split at h
  case h_4 =>
    split at h <;> cases h
    exact ⟨_, rfl⟩
  all_goals cases h
  all_goals exact ⟨_, rfl⟩

/-- A host read of an element that completes returns a value and changes nothing else (R218). -/
theorem readFloat_next {n : Nat} {s t : State} (h : readFloat n s = .next t) : ∃ r, t = s.returns r := by
  unfold readFloat at h
  split at h <;> cases h
  exact ⟨_, rfl⟩

/-- A `describe` that completes returns a value and changes nothing else (R168). -/
theorem describe_next {n : Nat} {s t : State} (h : describe n s = .next t) : ∃ r, t = s.returns r := by
  unfold describe at h
  split at h <;> cases h
  exact ⟨_, rfl⟩

/-- A message that completes decodes, and its instruction completes. -/
theorem issueMessage_next {m : Message} {s t : State} (h : issueMessage m s = .next t) :
    ∃ i, decode m = .ok i ∧ exec i s = .next t := by
  unfold issueMessage at h
  split at h
  · next i hdec => exact ⟨i, hdec, h⟩
  · cases h

/-- Every completed event is one of the cases of `EventResult`. -/
theorem hostEvent_result {e : HostEvent} {s t : State} (h : hostEvent e s = .next t) : EventResult s e t := by
  cases e with
  | issue m =>
    obtain ⟨i, hdec, hexec⟩ := issueMessage_next h
    exact .ran hdec hexec
  | issueTogether m n => cases h
  | readRegister n =>
    obtain ⟨r, rfl⟩ := readRegister_next h
    exact .register n r
  | readFloat n =>
    obtain ⟨r, rfl⟩ := readFloat_next h
    exact .element n r
  | describe n =>
    obtain ⟨r, rfl⟩ := describe_next h
    exact .described n r
  | resetBlock => cases h; exact .reset
  | arrive raw => cases h; exact .arrived raw
  | openClient b => cases h; exact .opened b
  | closeClient => cases h; exact .closed

/-- A step with an event waiting is that event, on the state it has been taken from. -/
theorem step_of_inbox {s : State} {e : HostEvent} {rest : List HostEvent} (h : s.inbox = e :: rest) :
    step s = hostEvent e (s.withInbox rest) := by
  rw [step, takeEvent, h]

/-- A step with nothing waiting changes nothing (R198). -/
theorem step_of_inbox_nil {s : State} (h : s.inbox = []) : step s = .next s := by
  rw [step, takeEvent, h]

/-- A completed step was idle or took the first waiting event. -/
theorem step_result {s t : State} (h : step s = .next t) :
    (s.inbox = [] ∧ t = s) ∨ ∃ e rest, s.inbox = e :: rest ∧ EventResult (s.withInbox rest) e t := by
  cases hin : s.inbox with
  | nil =>
    rw [step_of_inbox_nil hin] at h
    cases h
    exact .inl ⟨rfl, rfl⟩
  | cons e rest =>
    rw [step_of_inbox hin] at h
    exact .inr ⟨e, rest, rfl, hostEvent_result h⟩

end Sys2Proof.Machine
end

section
/-! What a step does to the two latches of the block, and with it the block's invariant (spec/10_state.md R21 to R23). -/

namespace Sys2Proof.Machine

/-- What anything but a reset does to the request latch: nothing, or all of it is a request frame (R21, R131). -/
def LatchKeptOrBuilt (s t : State) : Prop :=
  (t.txf = s.txf ∧ t.txv = s.txv) ∨ ∃ a start count, t.txf = buildRequest a start count ∧ t.txv = true

/-- What anything but a reset does to the result latch: nothing, a successful parse or an error entry (R145, R185). -/
def ResultKeptOrParsed (s t : State) : Prop :=
  (t.fout = s.fout ∧ t.rv = s.rv ∧ t.err = s.err) ∨
  (t.fout.length ≤ 32767 ∧ t.rv = true ∧ t.err = 0) ∨
  ∃ k, t.fout = [] ∧ t.rv = false ∧ t.err = errCode k

/-- A parse delivers its floats or enters an error. -/
theorem parseFrame_resultKeptOrParsed (s₀ s : State) (raw : List Byte) (ea ef : Byte) (en : Word16) :
    ResultKeptOrParsed s₀ (s.parseFrame raw ea ef en) := by
  cases h : parseResponse raw ea ef en with
  | ok fs =>
    rw [State.parseFrame_of_ok s raw ea ef en h]
    exact .inr (.inl ⟨parseResponse_ok_fits h, rfl, rfl⟩)
  | err k =>
    rw [State.parseFrame_of_err s raw ea ef en h]
    exact .inr (.inr ⟨k, rfl, rfl, rfl⟩)

/-- What an instruction does to the request latch. -/
theorem ExecResult.latch {s t : State} (h : ExecResult s t) : LatchKeptOrBuilt s t := by
  cases h with
  | checksum c r => exact .inl ⟨rfl, rfl⟩
  | built a start count => exact .inr ⟨a, start, count, rfl, rfl⟩
  | parsed raw ea ef en =>
    obtain ⟨htxf, htxv, -⟩ := s.parseFrame_frame raw ea ef en
    exact .inl ⟨htxf, htxv⟩
  | requested a start count hlink => exact .inr ⟨a, start, count, rfl, rfl⟩
  | measured start index decimals hlink =>
    obtain ⟨htxf, htxv, -⟩ := (s.requested start).afterRead.parseFrame_frame
      ((s.requested start).readBytes Config.bankRspLen) Config.unitAddress Config.fcReadHolding Config.bankRegs
    rw [State.afterRead_txf] at htxf
    rw [State.afterRead_txv] at htxv
    exact .inr ⟨Config.unitAddress, start, Config.bankRegs, htxf, htxv⟩

/-- What an instruction does to the result latch. -/
theorem ExecResult.results {s t : State} (h : ExecResult s t) : ResultKeptOrParsed s t := by
  cases h with
  | checksum c r => exact .inl ⟨rfl, rfl, rfl⟩
  | built a start count => exact .inl ⟨rfl, rfl, rfl⟩
  | parsed raw ea ef en => exact parseFrame_resultKeptOrParsed ..
  | requested a start count hlink => exact .inl ⟨rfl, rfl, rfl⟩
  | measured start index decimals hlink =>
    exact parseFrame_resultKeptOrParsed s (s.requested start).afterRead _ _ _ _

/-- What an event does to the two latches: it is a reset, or it keeps each latch or writes it whole. -/
theorem EventResult.latches {s t : State} {e : HostEvent} (h : EventResult s e t) :
    (e = .resetBlock ∧ t = s.resetBlock) ∨ (LatchKeptOrBuilt s t ∧ ResultKeptOrParsed s t) := by
  cases h with
  | ran hdec hexec => exact .inr ⟨(exec_result hexec).latch, (exec_result hexec).results⟩
  | reset => exact .inl ⟨rfl, rfl⟩
  | register | element | described | arrived | closed => exact .inr ⟨.inl ⟨rfl, rfl⟩, .inl ⟨rfl, rfl, rfl⟩⟩
  | opened b => exact .inr ⟨.inl (by simp), .inl (by simp)⟩

/-- What a step does to the two latches. -/
theorem step_latches {s t : State} (h : step s = .next t) :
    (∃ rest, s.inbox = .resetBlock :: rest ∧ t = (s.withInbox rest).resetBlock) ∨
    (LatchKeptOrBuilt s t ∧ ResultKeptOrParsed s t) := by
  obtain ⟨-, rfl⟩ | ⟨e, rest, hin, he⟩ := step_result h
  · exact .inr ⟨.inl ⟨rfl, rfl⟩, .inl ⟨rfl, rfl, rfl⟩⟩
  · obtain ⟨rfl, rfl⟩ | hkept := he.latches
    · exact .inl ⟨rest, hin, rfl⟩
    · exact .inr hkept

/-- The half of the invariant that speaks of the request latch (R21, R132). -/
theorem LatchKeptOrBuilt.keeps_inv {s t : State} (h : LatchKeptOrBuilt s t) (hsize : s.LatchSized)
    (hframe : s.LatchIsFrame) : t.LatchSized ∧ t.LatchIsFrame := by
  obtain ⟨htxf, htxv⟩ | ⟨a, start, count, htxf, -⟩ := h
  · simpa only [State.LatchSized, State.LatchIsFrame, htxf, htxv] using And.intro hsize hframe
  · simp only [State.LatchSized, State.LatchIsFrame, htxf]
    exact ⟨buildRequest_length .., fun _ => ⟨buildRequest_function .., crc16_buildRequest ..⟩⟩

/-- The half of the invariant that speaks of the result latch (R22, R23, R185). -/
theorem ResultKeptOrParsed.keeps_inv {s t : State} (h : ResultKeptOrParsed s t) (hfits : s.ResultFits)
    (herr : s.ErrLegal) (hagree : s.ResultAgrees) : t.ResultFits ∧ t.ErrLegal ∧ t.ResultAgrees := by
  simp only [State.ResultFits, State.ErrLegal, State.ResultAgrees] at *
  obtain ⟨hf, hr, he⟩ | ⟨hf, hr, he⟩ | ⟨k, hf, hr, he⟩ := h
  · rw [hf, hr, he]
    exact ⟨hfits, herr, hagree⟩
  · simp [hf, hr, he]
  · simp [hf, hr, he, errCode_le]

/-- Settles O56: each part of the invariant on the literal reset state. -/
theorem resetSatisfiesInvariant : Obligations.ResetSatisfiesInvariant := by
  unfold Obligations.ResetSatisfiesInvariant
  decide

/-- A reset event brings the block to the reset state's latches, so it meets the invariant from any state (R210). -/
theorem State.resetBlock_inv (s : State) : s.resetBlock.Inv := resetSatisfiesInvariant

/-- Settles O57: a step takes a reset, or keeps each latch or writes it whole with a frame or an outcome that is legal. -/
theorem stepKeepsInvariant : Obligations.StepKeepsInvariant := by
  intro s t ⟨hsize, hframe, hfits, herr, hagree⟩ hstep
  obtain ⟨rest, -, rfl⟩ | ⟨hlatch, hresult⟩ := step_latches hstep
  · exact State.resetBlock_inv _
  · obtain ⟨hsize', hframe'⟩ := hlatch.keeps_inv hsize hframe
    exact ⟨hsize', hframe', hresult.keeps_inv hfits herr hagree⟩

/-- Settles O58: anything but a reset keeps `TXV` or sets it. -/
theorem onlyResetClearsLatchValid : Obligations.OnlyResetClearsLatchValid := by
  intro s t hset hstep hclear
  obtain ⟨rest, hin, -⟩ | ⟨⟨-, htxv⟩ | ⟨_, _, _, -, htxv⟩, -⟩ := step_latches hstep
  · exact ⟨rest, hin⟩
  · simp [htxv, hset] at hclear
  · simp [htxv] at hclear

/-- Settles O43: at most 32767 floats do not wrap a 16-bit count. -/
theorem countRegisterIsExact : Obligations.CountRegisterIsExact := by
  intro s hinv
  obtain ⟨-, -, hfits, -⟩ := hinv
  have hlt : s.fout.length < 2 ^ 16 := by
    simp only [State.ResultFits] at hfits
    omega
  rw [State.nf, BitVec.toNat_ofNat, Nat.mod_eq_of_lt hlt]

end Sys2Proof.Machine
end

section
/-! The seven commands: what each writes, and what none reads or touches (spec/10_state.md R32, R35). -/

namespace Sys2Proof.Machine

/-- Settles O32: by the command; a parse writes `CRC` only at the expected length. -/
theorem commandWriteSets : Obligations.CommandWriteSets := by
  intro i s t hcmd h
  cases i with
  | crcInit | crcUpdate b | crcCompute m | crcEmit | crcCheck m => cases h; simp
  | reqBuild a start count =>
    cases h
    exact ⟨fun hne => absurd rfl (hne a start count), by simp [State.buildFrame]⟩
  | rspParse raw ea ef en =>
    cases h
    obtain ⟨htxf, htxv, houtside⟩ := s.parseFrame_frame raw ea ef en
    refine ⟨fun _ => ⟨htxf, htxv⟩, fun hne => absurd rfl (hne raw ea ef en), nofun, ?_, houtside⟩
    intro raw' ea' ef' en' heq hlen
    cases heq
    rw [State.parseFrame_crc, if_neg (by simp only [expectedLength]; omega)]
  | _ => cases hcmd

/-- Settles O33: by the command; a parse writes `CRC` from both states or from neither. -/
theorem commandsReadNoHiddenState : Obligations.CommandsReadNoHiddenState := by
  intro i s s' t t' hcmd hupdate hemit h h'
  cases i with
  | crcUpdate b => exact absurd rfl (hupdate b)
  | crcEmit => exact absurd rfl hemit
  | crcInit | crcCompute m | crcCheck m => cases h; cases h'; simp
  | reqBuild a start count => cases h; cases h'; simp [State.buildFrame]
  | rspParse raw ea ef en =>
    cases h; cases h'
    obtain ⟨hresult, hlatches⟩ := s.parseFrame_agrees raw ea ef en s'
    obtain ⟨htxf, htxv, -⟩ := s.parseFrame_frame raw ea ef en
    obtain ⟨htxf', htxv', -⟩ := s'.parseFrame_frame raw ea ef en
    refine ⟨hresult, ?_, .inr ⟨htxf, htxv, htxf', htxv'⟩, .inl hlatches⟩
    by_cases hlen : raw.length = expectedLength en
    · exact .inl (by simp [hlen])
    · exact .inr (by simp [hlen])
  | _ => cases hcmd

end Sys2Proof.Machine
end

section
/-! The host's reads of the registers, and the reset values (spec/10_state.md R21, R26, R34). -/

namespace Sys2Proof.Machine

variable (s : State)

/-- R26: `ERR` is 3 bits, so every bit above its field is zero. -/
theorem State.status_getLsbD (i : Nat) :
    s.status.getLsbD i = if i = 0 then s.txv else if i = 1 then s.rv else s.err.getLsbD (i - 2) := by
  have hsplit : s.status.getLsbD i =
      (0#3 ++ s.err ++ BitVec.ofBool s.rv ++ BitVec.ofBool s.txv : BitVec (3 + 3 + 1 + 1)).getLsbD i := rfl
  rw [hsplit, BitVec.getLsbD_append, BitVec.getLsbD_append, BitVec.getLsbD_append]
  match i with
  | 0 => simp
  | 1 => simp
  | i + 2 => simpa using BitVec.lt_of_getLsbD

theorem State.status_error_field : s.status.extractLsb' 2 3 = s.err := by
  ext i hi
  rw [BitVec.getElem_extractLsb', State.status_getLsbD, if_neg (by omega), if_neg (by omega), Nat.add_sub_cancel_left,
    BitVec.getLsbD_eq_getElem]

theorem State.status_top_field : s.status.extractLsb' 5 3 = 0 := by
  ext i hi
  rw [BitVec.getElem_extractLsb', State.status_getLsbD, if_neg (by omega), if_neg (by omega),
    BitVec.getLsbD_of_ge _ _ (by omega)]
  simp

/-- Settles O42: each read is the arm of `readRegister` for its number. -/
theorem registerReadsByNumber : Obligations.RegisterReadsByNumber := by
  intro s rest
  refine ⟨fun h => ?_, fun h => ?_, fun h => ?_, fun h => ?_⟩ <;> rw [step_of_inbox h]
  · rfl
  · exact ⟨s.status, rfl, s.status_getLsbD 0, s.status_getLsbD 1, s.status_error_field, s.status_top_field⟩
  · rfl
  · rfl

/-- A host read of `TXF` while `TXV` is 0 (R21, R222). -/
theorem readRegister_latch_fault {s : State} (h : s.txv = false) : readRegister 3 s = .fault .txfNoValue := by
  simp [readRegister, h]

/-- A host read of `TXF` while `TXV` is 1 (R21). -/
theorem readRegister_latch_valid {s : State} (h : s.txv = true) :
    readRegister 3 s = .next (s.returns (.bytes s.txf)) := by
  simp [readRegister, h]

/-- Settles O44: by the value of `TXV`. -/
theorem latchReadNeedsValidBit : Obligations.LatchReadNeedsValidBit := by
  intro s rest hin
  rw [step_of_inbox hin]
  exact ⟨readRegister_latch_fault (s := s.withInbox rest), readRegister_latch_valid (s := s.withInbox rest)⟩

/-- Settles O46: the fields as written, and the faulting read of a latch without a value. -/
theorem resetValues : Obligations.ResetValues := by
  refine ⟨rfl, rfl, rfl, rfl, rfl, fun rest => ?_⟩
  obtain ⟨hfault, -⟩ := latchReadNeedsValidBit { State.reset with inbox := .readRegister 3 :: rest } rest rfl
  exact hfault rfl

end Sys2Proof.Machine
end

section
/-! The byte orders of the multi-byte fields (spec/20_memory.md R52 to R55): each byte of a field is shifted to its own
lane of eight bits, so a lane read back holds its own byte and nothing of the others. -/

namespace Sys2Proof.Machine

/-- A byte shifted to lane `n` is what lane `n` holds. -/
theorem extractLsb'_shifted_byte_same {w n : Nat} (b : Byte) (h : n + 8 ≤ w) :
    (b.setWidth w <<< n).extractLsb' n 8 = b := by
  ext i hi
  simp [hi, show n + i < w by omega]

/-- A byte shifted to lane `n` leaves a lane that does not meet it zero. -/
theorem extractLsb'_shifted_byte_other {w n m : Nat} (b : Byte) (h : n + 8 ≤ m ∨ m + 8 ≤ n) :
    (b.setWidth w <<< n).extractLsb' m 8 = 0 := by
  ext i hi
  obtain habove | hbelow := h
  · simp [show 8 ≤ m + i - n by omega]
  · simp [show m + i < n by omega]

/-- R54: reading undoes writing; bit `i` of the value is bit `i` of the first byte or bit `i - 8` of the second. -/
@[simp] theorem decU16le_encU16le (v : Word16) : decU16le (encU16le v) = v := by
  ext i hi
  by_cases hlow : i < 8
  · simp [decU16le, encU16le, hlow, hi]
  · simp [decU16le, encU16le, hlow, show i - 8 < 8 by omega, show 8 + (i - 8) = i by omega, hi]

/-- R54: writing undoes reading; the two bytes are the two lanes of the value. -/
@[simp] theorem encU16le_decU16le (t0 t1 : Byte) : encU16le (decU16le [t0, t1]) = [t0, t1] := by
  rw [encU16le, decU16le, ← BitVec.shiftLeft_zero (BitVec.setWidth 16 _)]
  simp [BitVec.extractLsb'_or, extractLsb'_shifted_byte_same, extractLsb'_shifted_byte_other, -BitVec.shiftLeft_zero]

/-- Settles O1: the two writers and the reader as defined, and the two inverses. -/
theorem sixteenBitByteOrders : Obligations.SixteenBitByteOrders :=
  ⟨fun _ => rfl, fun _ => rfl, fun _ _ => rfl, decU16le_encU16le, encU16le_decU16le⟩

/-- Settles O2: the four bytes are the four lanes of the pattern, the first at lane 0. -/
theorem floatByteOrder : Obligations.FloatByteOrder := by
  intro q0 q1 q2 q3
  rw [decF32le, ← BitVec.shiftLeft_zero (q0.setWidth 32)]
  simp [BitVec.extractLsb'_or, extractLsb'_shifted_byte_same, extractLsb'_shifted_byte_other, -BitVec.shiftLeft_zero]

/-- Settles O18: the head with each 16-bit operand high byte first, then its checksum low byte first. -/
theorem requestFrameLayout : Obligations.RequestFrameLayout := by
  intro a start count
  have hhead : requestHead a start count = [a, 0x03, start.extractLsb' 8 8, start.extractLsb' 0 8,
      count.extractLsb' 8 8, count.extractLsb' 0 8] := rfl
  rw [buildRequest, hhead, encU16le]

end Sys2Proof.Machine
end

section
/-! A command issued again at once (spec/20_memory.md R61). -/

namespace Sys2Proof.Machine

/-- A parse reads no register, so parsing the same bytes again writes the same values. -/
theorem State.parseFrame_parseFrame (s : State) (raw : List Byte) (ea ef : Byte) (en : Word16) :
    (s.parseFrame raw ea ef en).parseFrame raw ea ef en = s.parseFrame raw ea ef en := by
  rw [State.parseFrame_eq, State.parseFrame_crc, State.parseFrame_eq s]
  split <;> cases parseResponse raw ea ef en <;> rfl

/-- Settles O34: by the command; none but `CRC.UPDATE` reads a register that it writes, so the second issue writes the same. -/
theorem commandsAreIdempotent : Obligations.CommandsAreIdempotent := by
  intro i s t hcmd hupdate h
  cases i with
  | crcUpdate b => exact absurd rfl (hupdate b)
  | crcInit | crcCompute m | crcEmit | crcCheck m | reqBuild a start count => cases h; rfl
  | rspParse raw ea ef en =>
    cases h
    exact congrArg Host.Outcome.next (s.parseFrame_parseFrame raw ea ef en)
  | _ => cases hcmd

end Sys2Proof.Machine
end

section
/-! What a step makes of the first waiting message (spec/20_memory.md R60, R67). -/

namespace Sys2Proof.Machine

/-- A message that decodes runs as its instruction. -/
theorem issueMessage_of_decode {m : Message} {i : Instr} (s : State) (h : decode m = .ok i) :
    issueMessage m s = exec i s := by
  rw [issueMessage, h]

/-- Settles O49: the refusal is the event's own. -/
theorem twoHostsAreRefused : Obligations.TwoHostsAreRefused := by
  intro s m n rest hin
  rw [step_of_inbox hin, hostEvent]

/-- Settles O52: the event taken is the message, and the message is its instruction. -/
theorem stepRunsDecodedInstruction : Obligations.StepRunsDecodedInstruction := by
  refine ⟨fun s m i rest hin hdec => ?_, fun s => step_of_inbox_nil⟩
  rw [step_of_inbox hin, hostEvent, issueMessage_of_decode _ hdec, State.withInbox]

end Sys2Proof.Machine
end

section
/-! The bytes of the operands, both ways: the 16-bit readers and writers, and the bytes of a response frame by position
(spec/20_memory.md R52 to R55, spec/30_encoding.md R84, R86). -/

namespace Sys2Proof.Machine

/-- The high-byte-first reader undoes its writer, as the low-byte-first one does: they differ only in the order of their
arguments. -/
@[simp] theorem decU16be_of_bytes (v : Word16) : decU16be (v.extractLsb' 8 8) (v.extractLsb' 0 8) = v :=
  decU16le_encU16le v

/-- R84: writing high byte first undoes reading high byte first. -/
@[simp] theorem encU16be_decU16be (hi lo : Byte) : encU16be (decU16be hi lo) = [hi, lo] :=
  congrArg List.reverse (encU16le_decU16le lo hi)

/-- R54 for two bytes that stand in a list. -/
theorem encU16le_decU16le_of_length {t : List Byte} (h : t.length = 2) : encU16le (decU16le t) = t := by
  obtain ⟨t0, t1, rfl⟩ := List.length_eq_two.mp h
  exact encU16le_decU16le t0 t1

/-- Byte `i` of the payload is byte `3 + i` of the frame. -/
theorem getElem?_of_framePayload {raw : List Byte} {i j : Nat} (hi : i < (framePayload raw).length) (hj : j = 3 + i) :
    raw[j]? = some (framePayload raw)[i] := by
  have hlen := framePayload_length raw
  rw [← List.getElem?_eq_getElem hi, framePayload, frameBody, List.getElem?_drop, List.getElem?_take_of_lt (by omega), hj]

/-- R86: float `k` is assembled from the four bytes of chunk `k`. -/
theorem decF32s_getElem? : ∀ (p : List Byte) (k : Nat) (h : 4 * k + 3 < p.length),
    (decF32s p)[k]? = some (decF32le p[4 * k] p[4 * k + 1] p[4 * k + 2] p[4 * k + 3])
  | _ :: _ :: _ :: _ :: _, 0, _ => rfl
  | _ :: _ :: _ :: _ :: rest, k + 1, h =>
    decF32s_getElem? rest k (by simp only [List.length_cons] at h; omega)
  | [], _, h | [_], _, h | [_, _], _, h | [_, _, _], _, h => by simp at h

/-- What a parse that succeeds says of its bytes: the expected length, and floats that are the payload's. -/
theorem parseResponse_ok {raw : List Byte} {ea ef : Byte} {en : Word16} {fs : List Word32}
    (h : parseResponse raw ea ef en = .ok fs) : raw.length = expectedLength en ∧ fs = decF32s (framePayload raw) := by
  obtain ⟨-, he⟩ | ⟨-, -, he⟩ | ⟨-, -, -, he⟩ | ⟨-, -, -, -, -, he⟩ | ⟨hlen, -, -, -, -, he⟩ :=
    parseResponse_cases raw ea ef en <;> cases he.symm.trans h
  exact ⟨hlen, rfl⟩

/-- Settles O27: chunk `k` of the payload is whole, and its bytes are those of the frame, three places on. -/
theorem floatElementsInOrder : Obligations.FloatElementsInOrder := by
  intro raw ea ef en fs k hparse hk
  obtain ⟨hlen, rfl⟩ := parseResponse_ok hparse
  have hchunk : 4 * k + 3 < (framePayload raw).length := by
    rw [framePayload_length, hlen, expectedLength]
    omega
  exact ⟨_, _, _, _, getElem?_of_framePayload (by omega) rfl, getElem?_of_framePayload (by omega) (by omega),
    getElem?_of_framePayload (by omega) (by omega), getElem?_of_framePayload hchunk (by omega),
    decF32s_getElem? _ k hchunk⟩

end Sys2Proof.Machine
end

section
/-! The wire frames on the machine (spec/30_encoding.md R81, R82), and the refusal of reserved codes (R92). -/

namespace Sys2Proof.Machine

/-- Settles O36: with the Transport open the client's guard lets the built and written request through. -/
theorem requestFrameGoesOnTheWire : Obligations.RequestFrameGoesOnTheWire :=
  fun s _ _ _ hlink => s.withClient_opened _ hlink

/-- A parse, from any state, by its outcome (R145). -/
theorem State.parseFrame_of_outcome (s : State) {raw : List Byte} {ea ef : Byte} {en : Word16} {r : ParseResult}
    (h : parseResponse raw ea ef en = r) :
    s.parseFrame raw ea ef en =
      ({ s with crc := if raw.length = expectedLength en then crc16 (frameBody raw) else s.crc } : State).finishParse r :=
  h ▸ s.parseFrame_eq raw ea ef en

/-- Settles O37: a response frame is a parse of its bytes with the outstanding operands, whose effect its outcome gives. -/
theorem responseFrameIsParsed : Obligations.ResponseFrameIsParsed :=
  fun s _ _ _ _ => ⟨fun _ h => congrArg Host.Outcome.next (s.parseFrame_of_outcome h),
    fun _ h => congrArg Host.Outcome.next (s.parseFrame_of_outcome h)⟩

/-- A message that is no instruction is refused with the decoder's reason. -/
theorem issueMessage_of_decode_error {m : Message} {why : DecodeError} (s : State) (h : decode m = .error why) :
    issueMessage m s = .refused (.undecodable why) := by
  rw [issueMessage, h]

end Sys2Proof.Machine

namespace Sys2Proof

/-- R92: the decoder gives a code that R95 does not list no meaning. -/
theorem decodeCmd_of_reserved {code : Byte} (ops : List Byte)
    (h : code ∉ [codeCrcInit, codeCrcUpdate, codeCrcCompute, codeCrcEmit, codeCrcCheck, codeReqBuild, codeRspParse]) :
    decodeCmd (code :: ops) = .error (.reservedCode code) := by
  simp only [List.mem_cons, List.not_mem_nil, or_false, not_or] at h
  simp [decodeCmd, h]

/-- Settles O48: the step issues the message, and the decoder's refusal of the code is the step's. -/
theorem reservedCodesAreRefused : Obligations.ReservedCodesAreRefused := by
  intro s code operands rest hcode hin
  have hdec : decode ⟨.cmd, code :: operands⟩ = .error (.reservedCode code) := decodeCmd_of_reserved operands hcode
  rw [Machine.step_of_inbox hin, Machine.hostEvent, Machine.issueMessage_of_decode_error _ hdec]

end Sys2Proof
end

section
/-! The decoder of each operand form and frame, said once as an equivalence: which bytes it accepts, and as what
(spec/30_encoding.md R81, R82, R95, R166). Both directions of the round trip are read off these. -/

namespace Sys2Proof

open Machine

/-- A command without operands takes no byte after its code. -/
theorem decodeBare_eq_ok_iff {code : Byte} {i j : Instr} {ops : List Byte} :
    decodeBare code i ops = .ok j ↔ ops = [] ∧ j = i := by
  cases ops <;> simp [decodeBare, eq_comm]

/-- `CRC.UPDATE`: exactly one byte. -/
theorem decodeUpdate_eq_ok_iff {ops : List Byte} {j : Instr} :
    decodeUpdate ops = .ok j ↔ ∃ b, ops = [b] ∧ j = .crcUpdate b := by
  constructor
  · intro h
    unfold decodeUpdate at h
    split at h <;> cases h
    exact ⟨_, rfl, rfl⟩
  · rintro ⟨b, rfl, rfl⟩
    rfl

/-- `REQ.BUILD`: a byte and two 16-bit operands, high byte first. -/
theorem decodeBuild_eq_ok_iff {ops : List Byte} {j : Instr} :
    decodeBuild ops = .ok j ↔
      ∃ a start count, ops = [a] ++ encU16be start ++ encU16be count ∧ j = .reqBuild a start count := by
  constructor
  · intro h
    unfold decodeBuild at h
    split at h <;> cases h
    exact ⟨_, _, _, by simp, rfl⟩
  · rintro ⟨a, start, count, rfl, rfl⟩
    simp [decodeBuild, encU16be]

/-- `RSP.PARSE`: the last four bytes are the expectations, all before them is the buffer. -/
theorem decodeParse_eq_ok_iff {ops : List Byte} {j : Instr} :
    decodeParse ops = .ok j ↔
      ∃ raw ea ef en, ops = raw ++ ([ea, ef] ++ encU16be en) ∧ j = .rspParse raw ea ef en := by
  constructor
  · intro h
    unfold decodeParse at h
    split at h <;> cases h
    next ea ef n1 n0 htail =>
      exact ⟨_, _, _, _, by rw [encU16be_decU16be, List.cons_append, List.cons_append, List.nil_append, ← htail,
        List.take_append_drop], rfl⟩
  · rintro ⟨raw, ea, ef, en, rfl, rfl⟩
    simp [decodeParse, encU16be]

/-- R81: the request frames are what `build_request` makes. -/
theorem decodeRequest_eq_ok_iff {bytes : List Byte} {j : Instr} :
    decodeRequest bytes = .ok j ↔ ∃ a start count, bytes = buildRequest a start count ∧ j = .readRequest a start count := by
  constructor
  · intro h
    unfold decodeRequest at h
    split at h
    case h_2 => cases h
    next a f s1 s0 n1 n0 c0 c1 =>
      split_ifs at h with hf hcrc
      cases h
      have hhead : requestHead a (decU16be s1 s0) (decU16be n1 n0) = [a, f, s1, s0, n1, n0] := by
        simp [requestHead, not_not.mp hf]
      refine ⟨_, _, _, ?_, rfl⟩
      rw [buildRequest, hhead, not_not.mp hcrc, encU16le_decU16le]
      rfl
  · rintro ⟨a, start, count, rfl, rfl⟩
    have hcrc := decU16le_encU16le (crc16 (requestHead a start count))
    simp only [requestHead, encU16be, List.cons_append, List.nil_append, encU16le] at hcrc
    simp [decodeRequest, buildRequest, requestHead, encU16be, encU16le, hcrc]

/-- R82: the response frames are a header, `2n` payload bytes and two checksum bytes. -/
theorem decodeResponse_eq_ok_iff {bytes : List Byte} {j : Instr} :
    decodeResponse bytes = .ok j ↔
      ∃ a byteCount payload c, (payloadEven payload ∧ payloadFits payload) ∧
        bytes = responseFrame a byteCount payload c ∧ j = .readResponse a byteCount payload c := by
  constructor
  · intro h
    unfold decodeResponse at h
    split at h
    case h_2 => cases h
    next a f b rest =>
      split_ifs at h with hf hlen
      cases h
      simp only [not_or, not_lt, not_not] at hlen hf
      have htail : (rest.drop (rest.length - 2)).length = 2 := by
        rw [List.length_drop]
        omega
      refine ⟨_, _, _, _, ⟨?even, ?fits⟩, ?bytes, rfl⟩
      case even =>
        simp only [payloadEven, List.length_take]
        omega
      case fits =>
        simp only [payloadFits, List.length_take]
        omega
      case bytes =>
        rw [responseFrame, encU16le_decU16le_of_length htail, List.append_assoc, List.take_append_drop, hf]
        rfl
  · rintro ⟨a, byteCount, payload, c, ⟨heven, hfits⟩, rfl, rfl⟩
    simp only [payloadEven, payloadFits] at heven hfits
    simp [decodeResponse, responseFrame, heven, hfits]

/-- The frames and selector bytes of the table differ, so each is looked up as its own operation. -/
theorem decodePseudo_of_mem : ∀ e ∈ pseudoTable, decodePseudo e.1 = .ok e.2 := by
  decide

/-- The table's frames are the operations' encodings (R134, R166). -/
theorem encode_of_mem_pseudoTable : ∀ e ∈ pseudoTable, encode e.2 = ⟨.pseudo, e.1⟩ := by
  decide +kernel

/-- R166: the messages of operations are those of the table. -/
theorem decodePseudo_eq_ok_iff {bytes : List Byte} {j : Instr} :
    decodePseudo bytes = .ok j ↔ (bytes, j) ∈ pseudoTable := by
  constructor
  · intro h
    unfold decodePseudo at h
    split at h <;> cases h
    next hlookup =>
      obtain ⟨before, after, htable, -⟩ := List.lookup_eq_some_iff.mp hlookup
      exact htable ▸ List.mem_append_right _ List.mem_cons_self
  · exact decodePseudo_of_mem _

end Sys2Proof
end

section
/-! The round trip between messages and well-formed instructions (spec/30_encoding.md R80 to R82, R95). -/

namespace Sys2Proof

open Machine

/-- A command message that decodes is the encoding of its instruction, by the code. -/
theorem encode_of_decodeCmd {bytes : List Byte} {i : Instr} (h : decodeCmd bytes = .ok i) :
    i.WellFormed ∧ encode i = ⟨.cmd, bytes⟩ := by
  cases bytes with
  | nil => cases h
  | cons code ops =>
    simp only [decodeCmd] at h
    split_ifs at h <;> subst code
    · obtain ⟨rfl, rfl⟩ := decodeBare_eq_ok_iff.mp h
      exact ⟨trivial, rfl⟩
    · obtain ⟨b, rfl, rfl⟩ := decodeUpdate_eq_ok_iff.mp h
      exact ⟨trivial, rfl⟩
    · cases h
      exact ⟨trivial, rfl⟩
    · obtain ⟨rfl, rfl⟩ := decodeBare_eq_ok_iff.mp h
      exact ⟨trivial, rfl⟩
    · cases h
      exact ⟨trivial, rfl⟩
    · obtain ⟨a, start, count, rfl, rfl⟩ := decodeBuild_eq_ok_iff.mp h
      exact ⟨trivial, rfl⟩
    · obtain ⟨raw, ea, ef, en, rfl, rfl⟩ := decodeParse_eq_ok_iff.mp h
      exact ⟨trivial, rfl⟩

/-- Every instruction of the table of operations is well formed. -/
theorem wellFormed_of_mem_pseudoTable : ∀ e ∈ pseudoTable, e.2.WellFormed := by
  simp [pseudoTable, Instr.WellFormed]

/-- Settles O55: by the format the message names. -/
theorem encodeUndoesDecode : Obligations.EncodeUndoesDecode := by
  intro ⟨format, bytes⟩ i h
  cases format with
  | cmd => exact encode_of_decodeCmd h
  | req8 =>
    obtain ⟨a, start, count, rfl, rfl⟩ := decodeRequest_eq_ok_iff.mp h
    exact ⟨trivial, rfl⟩
  | rspv =>
    obtain ⟨a, byteCount, payload, c, hwf, rfl, rfl⟩ := decodeResponse_eq_ok_iff.mp h
    exact ⟨hwf, rfl⟩
  | pseudo =>
    have hmem := decodePseudo_eq_ok_iff.mp h
    exact ⟨wellFormed_of_mem_pseudoTable _ hmem, encode_of_mem_pseudoTable _ hmem⟩

/-- An instruction of the table of operations is decoded back from its encoding. -/
theorem decode_encode_of_operation {i : Instr} (h : i ∈ pseudoTable.map Prod.snd) : decode (encode i) = .ok i := by
  obtain ⟨e, hmem, rfl⟩ := List.mem_map.mp h
  rw [encode_of_mem_pseudoTable e hmem]
  exact decodePseudo_of_mem e hmem

/-- Settles O54: by the instruction; each operand form and frame is accepted as what it encodes. -/
theorem decodeUndoesEncode : Obligations.DecodeUndoesEncode := by
  intro i hwf
  cases i with
  | crcInit | crcEmit | crcUpdate b | crcCompute m | crcCheck m => rfl
  | reqBuild a start count => exact decodeBuild_eq_ok_iff.mpr ⟨a, start, count, rfl, rfl⟩
  | rspParse raw ea ef en => exact decodeParse_eq_ok_iff.mpr ⟨raw, ea, ef, en, rfl, rfl⟩
  | readRequest a start count => exact decodeRequest_eq_ok_iff.mpr ⟨a, start, count, rfl, rfl⟩
  | readResponse a byteCount payload c =>
    exact decodeResponse_eq_ok_iff.mpr ⟨a, byteCount, payload, c, hwf, rfl, rfl⟩
  | getPower | getCurrent | getVoltage | getFrequency | getPowerFactor | getAnnualPowerConsumption
  | getReactivePower | getUptime => exact decode_encode_of_operation (by decide)

/-- Settles O53: the command words by their code, the request by its checksum, the last by the table of operations. -/
theorem writtenWordsDecode : Obligations.WrittenWordsDecode := by
  exact ⟨by decide, by decide, by decide, by decide +kernel, by decide, by decide +kernel⟩

end Sys2Proof
end

section
/-! The algebra of the checksum (spec/41_crc.md R110, R111, R121): a shift is linear over exclusive or and can be undone, so
absorbing a byte, and with it a message, can be undone too. -/

namespace Sys2Proof.Machine

/-- What a shift feeds back: the polynomial for a 1, nothing for a 0 (R110). -/
def crcFeedback (b : Bool) : Word16 := if b then Config.poly else 0

theorem xor_crcFeedback (r : Word16) (b : Bool) : r ^^^ crcFeedback b = if b then r ^^^ Config.poly else r := by
  cases b with
  | false => exact BitVec.xor_zero
  | true => rfl

/-- A shift moves down and feeds back the bit it moved out. -/
theorem crcShift_eq (r : Word16) : crcShift r = (r >>> 1) ^^^ crcFeedback (r.getLsbD 0) :=
  (xor_crcFeedback _ _).symm

/-- A serial iteration moves down and feeds back the bit it moved out, with the message bit on it (R113). -/
theorem crcSerialBit_eq (r : Word16) (b : Bool) :
    crcSerialBit r b = (r >>> 1) ^^^ crcFeedback ((r.getLsbD 0).xor b) :=
  (xor_crcFeedback _ _).symm

theorem crcFeedback_xor (a b : Bool) : crcFeedback (a.xor b) = crcFeedback a ^^^ crcFeedback b := by
  cases a <;> cases b <;> decide

/-- Bit 15 of the polynomial is 1. -/
theorem crcFeedback_msb (b : Bool) : (crcFeedback b).msb = b := by
  cases b <;> rfl

/-- R121 (c): moving down and feeding back are each linear. -/
theorem crcShift_xor (x y : Word16) : crcShift (x ^^^ y) = crcShift x ^^^ crcShift y := by
  rw [crcShift_eq, crcShift_eq, crcShift_eq, BitVec.getLsbD_xor, crcFeedback_xor, BitVec.ushiftRight_xor_distrib]
  ac_rfl

/-- The register a shift came from, as R121 (b) recovers it. -/
def crcUnshift (r : Word16) : Word16 := if r.msb then ((r ^^^ Config.poly) <<< 1) ||| 1 else r <<< 1

/-- Bit 15 of a shift's result tells which branch was taken (R121 (b)). -/
theorem crcShift_msb (r : Word16) : (crcShift r).msb = r.getLsbD 0 := by
  rw [crcShift_eq, BitVec.msb_xor, BitVec.msb_ushiftRight, crcFeedback_msb]
  simp

/-- Moved down and up again, a register has lost its lowest bit alone. -/
theorem shiftLeft_shiftRight_or_low_bit (r : Word16) : (r >>> 1) <<< 1 ||| (if r.getLsbD 0 then 1 else 0) = r := by
  ext i hi
  cases i with
  | zero => cases h : r.getLsbD 0 <;> simpa using h
  | succ i => cases r.getLsbD 0 <;> simp [Nat.add_comm, BitVec.getLsbD_eq_getElem hi]

/-- R121 (b): a shift is undone, by the branch it took. -/
theorem crcUnshift_crcShift : Function.LeftInverse crcUnshift crcShift := by
  intro r
  have hrestore := shiftLeft_shiftRight_or_low_bit r
  rw [crcUnshift, crcShift_msb, crcShift]
  split
  case isTrue h =>
    rw [if_pos h] at hrestore
    rwa [BitVec.xor_assoc, BitVec.xor_self, BitVec.xor_zero]
  case isFalse h =>
    rw [if_neg h] at hrestore
    exact BitVec.or_zero.symm.trans hrestore

theorem crcShift_injective : Function.Injective crcShift := crcUnshift_crcShift.injective

theorem crcShifts_eq_iterate (n : Nat) (r : Word16) : crcShifts n r = crcShift^[n] r := by
  induction n generalizing r with
  | zero => rfl
  | succ n ih => exact ih _

theorem crcByte_eq_iterate (r : Word16) (b : Byte) : crcByte r b = crcShift^[8] (r ^^^ b.setWidth 16) :=
  crcShifts_eq_iterate 8 _

/-- Absorbing a byte tells registers apart (R121 (b)). -/
theorem crcByte_injective (b : Byte) : Function.Injective (crcByte · b) := by
  intro r r' h
  simp only [crcByte_eq_iterate] at h
  exact (BitVec.xor_left_inj _).mp (crcShift_injective.iterate 8 h)

/-- Absorbing tells bytes apart (R122). -/
theorem crcByte_byte_injective (r : Word16) : Function.Injective (crcByte r) := by
  intro b b' h
  simp only [crcByte_eq_iterate] at h
  have hwide := (BitVec.xor_right_inj _).mp (crcShift_injective.iterate 8 h)
  simpa using congrArg (BitVec.setWidth 8) hwide

/-- Absorbing a message tells registers apart. -/
theorem crcBytes_injective (m : List Byte) : Function.Injective (crcBytes · m) := by
  induction m with
  | nil => exact Function.injective_id
  | cons b m ih => exact ih.comp (crcByte_injective b)

theorem crcBytes_eq_foldl (r : Word16) (m : List Byte) : crcBytes r m = m.foldl crcByte r := by
  induction m generalizing r with
  | nil => rfl
  | cons b m ih => exact ih _

/-- R121 (c): zero comes only from zero. -/
theorem crcByte_eq_zero_iff (r : Word16) (b : Byte) : crcByte r b = 0 ↔ r = b.setWidth 16 := by
  have hzero : crcByte (b.setWidth 16) b = 0 := by
    rw [crcByte, BitVec.xor_self]
    rfl
  rw [← hzero]
  exact (crcByte_injective b).eq_iff

/-- R121 (d): the low bits shifted out are all zero. -/
theorem crcShift_iterate_of_low_byte_zero (x : Word16) (h : x.setWidth 8 = 0) : crcShift^[8] x = x >>> 8 := by
  rw [← crcShifts_eq_iterate]
  refine crcShifts_of_low_zeros 8 x fun i hi => ?_
  simpa [hi] using congrArg (BitVec.getLsbD · i) h

/-- Settles O3: by the bit the shift tests, which is the parity of the number. -/
theorem crcShiftHalvesThenXors : Obligations.CrcShiftHalvesThenXors := by
  intro r
  have hhalf : (r >>> 1).toNat = r.toNat / 2 := by
    rw [BitVec.toNat_ushiftRight, Nat.shiftRight_one]
  have hparity : r.getLsbD 0 = true ↔ r.toNat % 2 = 1 := by
    rw [← BitVec.testBit_toNat, Nat.testBit_zero, decide_eq_true_iff]
  simp only [crcShift, hparity]
  split
  · rw [BitVec.toNat_xor, hhalf]
    rfl
  · exact hhalf

/-- Settles O4: the shifts counted down are the iterate. -/
theorem crcByteIsEightShifts : Obligations.CrcByteIsEightShifts := crcByte_eq_iterate

/-- Settles O5: the message recursion is the left fold. -/
theorem checksumFoldsBytes : Obligations.ChecksumFoldsBytes := ⟨crcBytes_eq_foldl _, rfl⟩

/-- Settles O9: on the finitely many registers an injective function is a bijection. -/
theorem checksumAlgebra : Obligations.ChecksumAlgebra := by
  refine ⟨crcShift_injective.bijective_of_finite, fun r => (crcUnshift_crcShift r).symm,
    fun b => (crcByte_injective b).bijective_of_finite, crcShift_xor, crcByte_eq_zero_iff,
    crcShift_iterate_of_low_byte_zero, fun a b => ?_⟩
  rw [crc16, crcBytes_append, crcBytes_eq_foldl, crc16]

end Sys2Proof.Machine
end

section
/-! The bit-serial form (spec/41_crc.md R113): bit `i` of the byte, once in bit `i` of the register, is what iteration `i` tests. -/

namespace Sys2Proof.Machine

/-- One serial iteration is a shift of the register with the rest of the byte already in it. -/
theorem crcShift_xor_byte (r : Word16) (b : Byte) :
    crcShift (r ^^^ b.setWidth 16) = crcSerialBit r (b.getLsbD 0) ^^^ (b >>> 1).setWidth 16 := by
  have hbit : (r ^^^ b.setWidth 16).getLsbD 0 = (r.getLsbD 0).xor (b.getLsbD 0) := by simp
  rw [crcShift_eq, hbit, crcSerialBit_eq, BitVec.ushiftRight_xor_distrib, BitVec.setWidth_ushiftRight (by decide)]
  ac_rfl

/-- Serial iterations, however many, are shifts of the register with the byte in it, less the bits still to come. -/
theorem crcSerialBits_eq_crcShifts (n : Nat) (r : Word16) (b : Byte) :
    crcSerialBits n r b = crcShifts n (r ^^^ b.setWidth 16) ^^^ (b >>> n).setWidth 16 := by
  induction n generalizing r b with
  | zero => simp [crcSerialBits, crcShifts]
  | succ n ih =>
    rw [crcSerialBits, crcShifts, ih, crcShift_xor_byte, ← BitVec.shiftRight_add, Nat.add_comm]

/-- Settles O6: after eight iterations nothing of the byte is left. -/
theorem serialFormEqualsByteForm : Obligations.SerialFormEqualsByteForm := by
  intro r b
  rw [crcByteSerial, crcSerialBits_eq_crcShifts, BitVec.ushiftRight_eq_zero (Nat.le_refl 8)]
  exact BitVec.xor_zero

end Sys2Proof.Machine
end

section
/-! What the checksum detects (spec/41_crc.md R119, R120, R122). -/

namespace Sys2Proof.Machine

/-- Settles O7: the register is cleared by its own two bytes. -/
theorem selfCheckYieldsZero : Obligations.SelfCheckYieldsZero := crc16_append_own_checksum

/-- R120 for any register: only its own bytes clear it. -/
theorem crcBytes_eq_zero_iff (r : Word16) (t0 t1 : Byte) : crcBytes r [t0, t1] = 0 ↔ r = decU16le [t0, t1] := by
  have hzero : crcBytes (decU16le [t0, t1]) [t0, t1] = 0 := by
    simpa using crcBytes_own_bytes (decU16le [t0, t1])
  rw [← hzero]
  exact (crcBytes_injective _).eq_iff

/-- Settles O8: the trailer is absorbed by the register the rest leaves. -/
theorem zeroTestEqualsTrailerTest : Obligations.ZeroTestEqualsTrailerTest := by
  intro d t0 t1
  rw [crc16, crcBytes_append, ← crc16]
  exact crcBytes_eq_zero_iff _ t0 t1

/-- R120 for a buffer cut as a parse cuts it. -/
theorem crc16_eq_zero_iff_trailer {raw : List Byte} (h : 2 ≤ raw.length) :
    crc16 raw = 0 ↔ crc16 (frameBody raw) = decU16le (frameTrailer raw) := by
  have hcut : frameBody raw ++ frameTrailer raw = raw := List.take_append_drop _ _
  have hlen : (frameTrailer raw).length = 2 := by
    rw [frameTrailer, List.length_drop]
    omega
  obtain ⟨t0, t1, ht⟩ := List.length_eq_two.mp hlen
  rw [ht] at hcut ⊢
  rw [← zeroTestEqualsTrailerTest, hcut]

/-- A buffer of the expected length with a wrong checksum fails with ChecksumMismatch, before any other check (R142, R182). -/
theorem parseResponse_of_checksum_ne_zero {raw : List Byte} {ea ef : Byte} {en : Word16}
    (hlen : raw.length = expectedLength en) (hcrc : crc16 raw ≠ 0) :
    parseResponse raw ea ef en = .err .checksumMismatch := by
  have hbody := mt (crc16_eq_zero_iff_trailer (by rw [hlen, expectedLength]; omega)).mpr hcrc
  rw [parseResponse, if_neg (not_not.mpr hlen), if_pos hbody]

/-- Messages that differ in one byte leave different registers (R122). -/
theorem crcBytes_modify_ne {f : Byte → Byte} (hf : ∀ b, f b ≠ b) (r : Word16) (m : List Byte) (k : Nat)
    (hk : k < m.length) : crcBytes r (m.modify k f) ≠ crcBytes r m := by
  induction m generalizing r k with
  | nil => cases hk
  | cons b m ih =>
    cases k with
    | zero => exact (crcBytes_injective m).ne ((crcByte_byte_injective r).ne (hf b))
    | succ k => exact ih (crcByte r b) k (Nat.lt_of_succ_lt_succ hk)

/-- Flipping a bit changes a byte. -/
theorem flipped_bit_ne {j : Nat} (hj : j < 8) (b : Byte) : b ^^^ (1#8 <<< j) ≠ b := by
  intro h
  simpa [hj] using congrArg (BitVec.getLsbD · j) h

/-- Settles O10: the byte with the flipped bit is another byte. -/
theorem oneFlippedBitChangesChecksum : Obligations.OneFlippedBitChangesChecksum :=
  fun m k _ hk hj => crcBytes_modify_ne (flipped_bit_ne hj) _ m k hk

/-- Settles O11: the flipped buffer keeps its length and has a checksum other than zero. -/
theorem oneFlippedBitFailsTheParse : Obligations.OneFlippedBitFailsTheParse := by
  intro raw ea ef en k j hlen hcrc hk hj
  refine parseResponse_of_checksum_ne_zero ?_ (hcrc ▸ oneFlippedBitChangesChecksum raw k j hk hj)
  rw [List.length_modify, hlen, expectedLength]
  omega

end Sys2Proof.Machine
end

section
/-! The checksum commands (spec/41_crc.md R114 to R118), and a message streamed through them (R115). -/

namespace Sys2Proof.Machine

/-- Settles O12: the start value is written and nothing is returned. -/
theorem crcInitLoadsStartValue : Obligations.CrcInitLoadsStartValue := fun _ => rfl

/-- Settles O13: the byte is absorbed by whatever stands in `CRC`. -/
theorem crcUpdateAbsorbsOneByte : Obligations.CrcUpdateAbsorbsOneByte := fun _ _ => rfl

/-- Settles O14: the checksum is written and returned. -/
theorem crcComputeReturnsChecksum : Obligations.CrcComputeReturnsChecksum := fun _ _ => rfl

/-- Settles O15: the two bytes are those of `encU16le`. -/
theorem crcEmitReturnsLowByteFirst : Obligations.CrcEmitReturnsLowByteFirst := fun _ => rfl

/-- R118: no checksum of fewer than two bytes is zero, since one byte cannot equal the 16-bit start value. -/
theorem crc16_ne_zero_of_length_lt_two {m : List Byte} (h : m.length < 2) : crc16 m ≠ 0 := by
  match m with
  | [] => decide
  | [b] =>
    rw [crc16, crcBytes_cons, crcBytes_nil, Ne, crcByte_eq_zero_iff]
    intro heq
    simpa [Config.crcInit] using congrArg (BitVec.getLsbD · 8) heq
  | _ :: _ :: _ => simp at h

/-- Settles O16: the comparison as a decision, and false where no checksum can be zero. -/
theorem crcCheckTestsForZero : Obligations.CrcCheckTestsForZero := by
  have hcheck : ∀ (s : State) (m : List Byte),
      exec (.crcCheck m) s = .next { s with crc := crc16 m, result := .bool (decide (crc16 m = 0x0000)) } :=
    fun _ _ => rfl
  refine ⟨hcheck, fun s m hm => ?_⟩
  rw [hcheck, decide_eq_false (crc16_ne_zero_of_length_lt_two hm)]

/-- A run whose next event is a well-formed instruction that completes goes on from where the instruction ends. -/
theorem run_of_issued {s t : State} {i : Instr} {rest : List HostEvent} (n : Nat)
    (hin : s.inbox = .issue (encode i) :: rest) (hwf : i.WellFormed) (hexec : exec i { s with inbox := rest } = .next t) :
    Host.Core.run Sys2Proof.core (n + 1) s = Host.Core.run Sys2Proof.core n t := by
  obtain ⟨hstep, -⟩ := stepRunsDecodedInstruction
  have h : Sys2Proof.core.step s = .next t := (hstep s _ i rest hin (decodeUndoesEncode i hwf)).trans hexec
  simp only [Host.Core.run, h]

/-- Streaming from any register value: one `CRC.UPDATE` a byte absorbs the bytes (R115). -/
theorem run_crcUpdates (m : List Byte) (rest : List HostEvent) (s : State)
    (hin : s.inbox = m.map (fun b => .issue (encode (.crcUpdate b))) ++ rest) (hresult : s.result = .none) :
    Host.Core.run Sys2Proof.core m.length s = .next { s with crc := crcBytes s.crc m, inbox := rest } := by
  induction m generalizing s with
  | nil =>
    subst hin
    rfl
  | cons b m ih =>
    rw [List.length_cons, run_of_issued m.length hin trivial (crcUpdateAbsorbsOneByte _ b), ih _ rfl rfl, ← hresult]
    rfl

/-- Settles O17: `CRC.INIT` loads the start value that `crc16` folds from. -/
theorem streamingEqualsCompute : Obligations.StreamingEqualsCompute := by
  intro m rest s hin
  rw [run_of_issued m.length hin trivial (crcInitLoadsStartValue _)]
  exact run_crcUpdates m rest _ rfl rfl

end Sys2Proof.Machine
end

section
/-! The encoder: the request frames (spec/42_frame_encoder.md R132, R134) and the command that latches them (R131). -/

namespace Sys2Proof.Machine

/-- The trailer of a request frame, in wire order (R130). -/
theorem buildRequest_drop (a : Byte) (start count : Word16) :
    (buildRequest a start count).drop 6 = encU16le (crc16 (requestHead a start count)) := rfl

/-- R81: a request frame is decoded as the request it was built from. -/
theorem decode_buildRequest (a : Byte) (start count : Word16) :
    decode ⟨.req8, buildRequest a start count⟩ = .ok (.readRequest a start count) :=
  decodeUndoesEncode (.readRequest a start count) trivial

/-- R132 (e): the decoder reads the operands back from the frame, so no two requests share one. -/
theorem buildRequest_injective {a a' : Byte} {start start' count count' : Word16}
    (h : buildRequest a start count = buildRequest a' start' count') :
    a = a' ∧ start = start' ∧ count = count' := by
  have hread := decode_buildRequest a start count
  rw [h, decode_buildRequest] at hread
  cases hread
  exact ⟨rfl, rfl, rfl⟩

/-- Settles O19: the frame is a six-byte head and its own checksum, and its operands can be read back. -/
theorem requestFrameProperties : Obligations.RequestFrameProperties := by
  refine ⟨fun a start count => ⟨buildRequest_length a start count, crc16_buildRequest a start count,
    buildRequest_function a start count, ?trailer⟩, fun _ _ _ _ _ _ => buildRequest_injective⟩
  case trailer => rw [buildRequest_drop, buildRequest_take, decU16le_encU16le]

/-- Settles O20: the seven checksums, computed. -/
theorem meterClientFrames : Obligations.MeterClientFrames := by
  unfold Obligations.MeterClientFrames
  decide +kernel

/-- Settles O21: the frame is latched, its checksum set and the frame returned, whatever the operands. -/
theorem reqBuildLatchesFrame : Obligations.ReqBuildLatchesFrame := fun _ _ _ _ => rfl

/-- Settles O22: what is latched is the frame that `decode_buildRequest` reads. -/
theorem latchedFrameDecodesToRequest : Obligations.LatchedFrameDecodesToRequest := by
  intro s t a start count h
  rw [reqBuildLatchesFrame] at h
  cases h
  exact decode_buildRequest a start count

end Sys2Proof.Machine
end

section
/-! The decoder: which buffers parse, which end in DecodeError, and what a parse does not look at (spec/43_frame_decoder.md
R146, R149, R152, R153). -/

namespace Sys2Proof.Machine

theorem expectedLength_eq (en : Word16) : expectedLength en = 5 + 2 * en.toNat := by
  rw [expectedLength]
  omega

/-- A payload of the expected length holds whole floats exactly when the register count is even (R152). -/
theorem framePayload_whole_iff {raw : List Byte} {en : Word16} (h : raw.length = expectedLength en) :
    (framePayload raw).length % 4 = 0 ↔ en.toNat % 2 = 0 := by
  rw [framePayload_length, h, expectedLength_eq]
  omega

/-- A buffer of an expected length holds its checksum, so the two tests of R120 agree on it. -/
theorem crc16_eq_zero_iff_of_expectedLength {raw : List Byte} {en : Word16} (h : raw.length = expectedLength en) :
    crc16 raw = 0 ↔ crc16 (frameBody raw) = decU16le (frameTrailer raw) :=
  crc16_eq_zero_iff_trailer (by rw [h, expectedLength_eq]; omega)

/-- R153: a parse succeeds when the four checks pass, with the floats of the payload. -/
theorem parseResponse_eq_ok_iff {raw : List Byte} {ea ef : Byte} {en : Word16} {fs : List Word32} :
    parseResponse raw ea ef en = .ok fs ↔
      (raw.length = expectedLength en ∧ crc16 raw = 0 ∧ raw[0]? = some ea ∧ raw[1]? = some ef ∧ en.toNat % 2 = 0) ∧
        fs = decF32s (framePayload raw) := by
  constructor
  · intro h
    obtain ⟨-, he⟩ | ⟨-, -, he⟩ | ⟨-, -, -, he⟩ | ⟨-, -, -, -, -, he⟩ | ⟨hlen, hcrc, haddr, hfun, hwhole, he⟩ :=
      parseResponse_cases raw ea ef en <;> cases he.symm.trans h
    exact ⟨⟨hlen, (crc16_eq_zero_iff_of_expectedLength hlen).mpr hcrc, haddr, hfun,
      (framePayload_whole_iff hlen).mp hwhole⟩, rfl⟩
  · rintro ⟨⟨hlen, hcrc, haddr, hfun, heven⟩, rfl⟩
    have hbody := (crc16_eq_zero_iff_of_expectedLength hlen).mp hcrc
    have hwhole := (framePayload_whole_iff hlen).mpr heven
    simp [parseResponse, hlen, hbody, haddr, hfun, hwhole]

/-- R152: DecodeError is left when only the last check fails. -/
theorem parseResponse_eq_decodeError_iff {raw : List Byte} {ea ef : Byte} {en : Word16} :
    parseResponse raw ea ef en = .err .decodeError ↔
      en.toNat % 2 = 1 ∧ raw.length = expectedLength en ∧ crc16 (frameBody raw) = decU16le (frameTrailer raw) ∧
        raw[0]? = some ea ∧ raw[1]? = some ef := by
  constructor
  · intro h
    obtain ⟨-, he⟩ | ⟨-, -, he⟩ | ⟨-, -, -, he⟩ | ⟨hlen, hcrc, haddr, hfun, hpart, -⟩ | ⟨-, -, -, -, -, he⟩ :=
      parseResponse_cases raw ea ef en
    case inr.inr.inr.inl =>
      rw [Ne, framePayload_whole_iff hlen] at hpart
      exact ⟨Nat.mod_two_ne_zero.mp hpart, hlen, hcrc, haddr, hfun⟩
    all_goals cases he.symm.trans h
  · rintro ⟨hodd, hlen, hcrc, haddr, hfun⟩
    have hpart := mt (framePayload_whole_iff hlen).mp (Nat.mod_two_ne_zero.mpr hodd)
    simp [parseResponse, hlen, hcrc, haddr, hfun, hpart]

/-- Settles O24: by the characterisation of a success, whose floats are those of `framePayload`. -/
theorem parseSuccessCharacterised : Obligations.ParseSuccessCharacterised := by
  refine ⟨fun raw ea ef en => ?_, fun raw raw' ea ea' ef ef' en en' fs fs' h h' hpayload => ?_⟩
  · simp only [parseResponse_eq_ok_iff, exists_and_left, exists_eq, and_true, expectedLength_eq]
  · obtain ⟨-, rfl⟩ := parseResponse_ok h
    obtain ⟨-, rfl⟩ := parseResponse_ok h'
    exact congrArg decF32s hpayload

/-- Settles O25: a success needs an even count, and DecodeError is the failure of that check alone. -/
theorem oddCountNeverParses : Obligations.OddCountNeverParses := by
  intro raw ea ef en
  refine ⟨fun hodd fs h => ?_, ?_⟩
  · obtain ⟨⟨-, -, -, -, heven⟩, -⟩ := parseResponse_eq_ok_iff.mp h
    omega
  · rw [parseResponse_eq_decodeError_iff, expectedLength_eq, frameBody, frameTrailer]

/-- Settles O26: the count of a success is even, and its floats are as many as `parseResponse_ok_length` says. -/
theorem parsedCountIsHalfTheRegisters : Obligations.ParsedCountIsHalfTheRegisters := by
  intro raw ea ef en fs h
  obtain ⟨⟨-, -, -, -, heven⟩, -⟩ := parseResponse_eq_ok_iff.mp h
  exact ⟨heven, parseResponse_ok_length h, parseResponse_ok_fits h⟩

@[simp] theorem frameBody_append_encU16le (d : List Byte) (c : Word16) : frameBody (d ++ encU16le c) = d := by
  simp [frameBody]

@[simp] theorem frameTrailer_append_encU16le (d : List Byte) (c : Word16) :
    frameTrailer (d ++ encU16le c) = encU16le c := by
  simp [frameTrailer]

/-- R146: with a right checksum the outcome is decided by the header's two echo bytes and the payload. -/
theorem parseResponse_of_own_checksum (a f b ea ef : Byte) (payload : List Byte) (en : Word16) :
    parseResponse ([a, f, b] ++ payload ++ encU16le (crc16 ([a, f, b] ++ payload))) ea ef en =
      if payload.length + 5 ≠ expectedLength en then .err .lengthMismatch
      else if a ≠ ea ∨ f ≠ ef then .err .unexpectedReply
      else if payload.length % 4 ≠ 0 then .err .decodeError
      else .ok (decF32s payload) := by
  rw [parseResponse, framePayload, frameBody_append_encU16le, frameTrailer_append_encU16le, decU16le_encU16le]
  simp

/-- Settles O28: neither outcome mentions `byteCount`. -/
theorem byteCountIsNotChecked : Obligations.ByteCountIsNotChecked := by
  intro a f b b' ea ef payload en
  rw [parseResponse_of_own_checksum, parseResponse_of_own_checksum]

/-- Settles O29: `RSP.PARSE` is a parse of its operands, whose effect its outcome gives. -/
theorem rspParseEffect : Obligations.RspParseEffect :=
  fun s _ _ _ _ => ⟨fun _ h => congrArg Host.Outcome.next (s.parseFrame_of_outcome h),
    fun _ h => congrArg Host.Outcome.next (s.parseFrame_of_outcome h)⟩

end Sys2Proof.Machine
end

section
/-! A float pattern read as a number, by the range of its exponent and fraction fields (spec/43_frame_decoder.md R147). -/

namespace Sys2Proof.Machine

/-- The magnitude as one power of two: the two branches of `floatMagnitude` are the two signs of its exponent. -/
theorem floatMagnitude_eq (e f : Nat) :
    floatMagnitude e f = floatSignificand e f * (2 : Rat) ^ ((max e 1 : Nat) - 150 : Int) := by
  simp only [floatMagnitude, Rat.mkRat_eq_div]
  split
  case isTrue h =>
    have hexp : ((max e 1 : Nat) - 150 : Int) = ((max e 1 - 150 : Nat) : Int) := by omega
    rw [hexp, zpow_natCast]
    push_cast
    ring
  case isFalse h =>
    have hexp : ((max e 1 : Nat) - 150 : Int) = -((150 - max e 1 : Nat) : Int) := by omega
    rw [hexp, zpow_neg, zpow_natCast]
    push_cast
    ring

/-- A normal pattern: the hidden bit is 1. -/
theorem floatMagnitude_normal {e : Nat} (f : Nat) (he : 1 ≤ e) :
    floatMagnitude e f = (2 : Rat) ^ ((e : Int) - 127) * (1 + (f : Rat) / 2 ^ 23) := by
  have hexp : (e : Int) - 127 = ((e : Int) - 150) + 23 := by omega
  rw [floatMagnitude_eq, floatSignificand, if_neg (by omega), max_eq_left he, hexp, zpow_add₀ two_ne_zero]
  push_cast
  ring

/-- A subnormal pattern or a zero: the hidden bit is 0 and the exponent is that of field 1. -/
theorem floatMagnitude_subnormal (f : Nat) :
    floatMagnitude 0 f = (2 : Rat) ^ (-126 : Int) * ((f : Rat) / 2 ^ 23) := by
  rw [floatMagnitude_eq, floatSignificand, if_pos rfl]
  norm_num
  ring

/-- `floatValue` as a function of the three fields of its pattern. -/
def floatOfFields (negative : Bool) (e f : Nat) : Number :=
  if e = 255 then (if f = 0 then .infinity negative else .nan)
  else if e = 0 ∧ f = 0 ∧ negative = true then .negativeZero
  else .finite (if negative then - floatMagnitude e f else floatMagnitude e f)

theorem floatValue_eq_floatOfFields (w : Word32) :
    floatValue w = floatOfFields w.msb (w.extractLsb' 23 8).toNat (w.extractLsb' 0 23).toNat := rfl

/-- Every finite pattern but negative zero is its signed magnitude. -/
theorem floatOfFields_finite {negative : Bool} {e f : Nat} (he : e ≠ 255) (hzero : ¬(e = 0 ∧ f = 0 ∧ negative = true)) :
    floatOfFields negative e f = .finite ((if negative then -1 else 1) * floatMagnitude e f) := by
  rw [floatOfFields, if_neg he, if_neg hzero, ite_mul, neg_one_mul, one_mul]

/-- A zero keeps its sign. -/
theorem floatOfFields_zero (negative : Bool) :
    floatOfFields negative 0 0 = if negative then .negativeZero else .finite 0 := by
  cases negative with
  | true => rfl
  | false => simp [floatOfFields_finite, floatMagnitude_subnormal]

/-- Settles O31: by the range; the finite ones by the magnitude of normal and subnormal patterns. -/
theorem floatPatternReading : Obligations.FloatPatternReading := by
  intro w sign e f
  have hfields : floatValue w = floatOfFields w.msb e f := floatValue_eq_floatOfFields w
  clear_value e f
  rw [hfields]
  refine ⟨fun hlow hhigh => ?normal, fun he hf => ?subnormal, fun he hf => ?zero, fun he hf => ?infinity,
    fun he hf => ?nan⟩
  case normal => rw [floatOfFields_finite (by omega) (by omega), floatMagnitude_normal f hlow, ← mul_assoc]
  case subnormal => rw [floatOfFields_finite (by omega) (by omega), he, floatMagnitude_subnormal, ← mul_assoc]
  case zero => rw [he, hf, floatOfFields_zero]
  case infinity => rw [floatOfFields, if_pos he, if_pos hf]
  case nan => rw [floatOfFields, if_pos he, if_neg hf]

end Sys2Proof.Machine
end

section
/-! The shared sequence of the eight MeterClient operations: each operation is one row of it, and what it does is decided
by its reply alone (spec/44_host_sequences.md R164, R165, R169). -/

namespace Sys2Proof.Machine

/-- The rows of R165: the operation, its start register, the index of its float and its decimals. -/
def operationRows : List (Instr × Word16 × Nat × Nat) :=
  [(.getPower, 0, 0, 3), (.getCurrent, 0, 1, 3), (.getVoltage, 2, 1, 1), (.getFrequency, 4, 1, 2),
   (.getPowerFactor, 6, 1, 4), (.getAnnualPowerConsumption, 8, 1, 2), (.getReactivePower, 14, 0, 3),
   (.getUptime, 16, 0, 3)]

/-- The instruction runs the shared sequence with these operands, and selects one of the nine floats of the bank. -/
def Measures (i : Instr) (start : Word16) (index decimals : Nat) : Prop :=
  index < 9 ∧ ∀ s : State, exec i s = s.withClient (s.measure start index decimals)

/-- R165: an operation runs the shared sequence with the operands of its row. -/
theorem measures_of_mem_operationRows :
    ∀ row ∈ operationRows, Measures row.1 row.2.1 row.2.2.1 row.2.2.2 := by
  intro row hrow
  fin_cases hrow <;> exact ⟨by decide, fun _ => rfl⟩

/-- R96: the instructions of the format `PSEUDO` are the operations. -/
theorem measures_of_pseudo {i : Instr} (h : (encode i).format = .pseudo) :
    ∃ start index decimals, Measures i start index decimals := by
  have hrow : ∃ row ∈ operationRows, row.1 = i := by
    cases i with
    | getPower | getCurrent | getVoltage | getFrequency | getPowerFactor | getAnnualPowerConsumption
    | getReactivePower | getUptime => decide
    | _ => cases h
  obtain ⟨row, hmem, rfl⟩ := hrow
  exact ⟨_, _, _, measures_of_mem_operationRows row hmem⟩

/-- All that a Transport read uses up, in one equation. -/
theorem State.afterRead_eq (s : State) :
    s.afterRead =
      { s with arrivals := s.arrivals.drop 1, draws := if s.arrivals = [] then s.draws + 1 else s.draws } := by
  cases h : s.arrivals <;> simp [State.afterRead, h]

/-- The state of the shared sequence when the reply has been read and its checksum taken: the request latched and on the
wire, and `CRC` the reply's where its length is right. -/
def State.exchanged (s : State) (start : Word16) : State :=
  { s with
    txf := buildRequest 1 start 18, txv := true, wire := s.wire ++ [buildRequest 1 start 18],
    outstandingAddress := 1, outstandingCount := 18,
    crc := if (s.readBytes 41).length = 41 then crc16 (frameBody (s.readBytes 41))
      else crc16 (requestHead 1 start 18),
    arrivals := s.arrivals.drop 1, draws := if s.arrivals = [] then s.draws + 1 else s.draws,
    result := .bytes (buildRequest 1 start 18) }

/-- R164: the sequence is an exchange, then the reply's outcome finished and its rounded element or failure returned. -/
theorem State.measure_eq (s : State) (start : Word16) (index decimals : Nat) :
    s.measure start index decimals =
      ((s.exchanged start).finishParse (bankParse (s.readBytes 41))).returns
        (measured (bankParse (s.readBytes 41)) index decimals) := by
  rw [State.measure, State.requested_readBytes, State.parseFrame_eq, State.afterRead_eq]
  rfl

/-- A successful reply has the nine floats of the bank, so the selected element is there (R149). -/
theorem bankParse_ok_getElem? {raw : List Byte} {fs : List Word32} {index : Nat} (h : bankParse raw = .ok fs)
    (hindex : index < 9) : ∃ w, fs[index]? = some w := by
  have hlen : fs.length = 9 := parseResponse_ok_length h
  exact ⟨fs[index], List.getElem?_eq_getElem (hlen ▸ hindex)⟩

/-- The selected element of a successful reply is returned rounded (R164). -/
theorem measured_ok {fs : List Word32} {index : Nat} {w : Word32} (h : fs[index]? = some w) (decimals : Nat) :
    measured (.ok fs) index decimals = .number (roundFloat w decimals) := by
  simp [measured, h]

/-- Settles O39: each row is the shared sequence, whose outcome gives the latches and the result. -/
theorem operationsFollowTheirRows : Obligations.OperationsFollowTheirRows := by
  intro row hrow s hlink
  obtain ⟨hindex, hexec⟩ := measures_of_mem_operationRows row hrow
  obtain ⟨i, start, index, decimals⟩ := row
  dsimp only at hindex hexec ⊢
  rw [hexec, s.withClient_opened _ hlink, State.measure_eq]
  refine ⟨fun fs (hbank : bankParse (s.readBytes 41) = .ok fs) => ?_,
    fun k (hbank : bankParse (s.readBytes 41) = .err k) => ?_⟩
  · obtain ⟨w, hw⟩ := bankParse_ok_getElem? hbank hindex
    rw [hbank, measured_ok hw]
    exact ⟨w, hw, rfl⟩
  · rw [hbank]
    rfl

/-- Settles O40: by the outcome of the reply; the element of a success is there. -/
theorem operationReturnsNumberOrFailure : Obligations.OperationReturnsNumberOrFailure := by
  intro i s t hpseudo h
  obtain ⟨start, index, decimals, hindex, hexec⟩ := measures_of_pseudo hpseudo
  obtain ⟨-, rfl⟩ := s.withClient_next _ _ (hexec s ▸ h)
  rw [State.measure_eq]
  cases hbank : bankParse (s.readBytes 41) with
  | ok fs =>
    obtain ⟨w, hw⟩ := bankParse_ok_getElem? hbank hindex
    exact .inl ⟨roundFloat w decimals, measured_ok hw decimals⟩
  | err k => exact .inr ⟨k, rfl, rfl, rfl⟩

end Sys2Proof.Machine
end

section
/-! The end-to-end test of the document (spec/44_host_sequences.md R173, R174). -/

namespace Sys2Proof.Machine

/-- The 41-byte frame of V30 (spec/95_test_vectors.md). -/
def bankFrame : List Byte :=
  [0x01, 0x03, 0x24, 0x00, 0x50, 0x9A, 0x44, 0x66, 0x66, 0xD6, 0x40, 0x9A, 0x19, 0x66, 0x43,
   0x00, 0x00, 0x48, 0x42, 0x48, 0xE1, 0x7A, 0x3F, 0x9A, 0x09, 0x96, 0x44, 0x66, 0xC6, 0x8F, 0x44,
   0x33, 0x33, 0xF3, 0x41, 0x00, 0x00, 0xB4, 0x44, 0x10, 0xA6]

/-- V30: the nine floats of the frame, among them the two that R173 rounds. -/
theorem bankParse_bankFrame :
    bankParse bankFrame = .ok [0x449A5000, 0x40D66666, 0x4366199A, 0x42480000, 0x3F7AE148, 0x4496099A, 0x448FC666,
      0x41F33333, 0x44B40000] := by
  decide +kernel

/-- A sequence whose reply is the frame of V30 returns what is selected from that frame's parse. -/
theorem State.measure_result_of_bankFrame {s : State} {rest : List (List Byte)} (h : s.arrivals = bankFrame :: rest)
    (start : Word16) (index decimals : Nat) :
    (s.measure start index decimals).result = measured (bankParse bankFrame) index decimals := by
  have hwhole : bankFrame.take 41 = bankFrame := rfl
  rw [State.measure_eq, State.returns_result, s.readBytes_arrived 41 _ _ h, hwhole]

/-- The shared sequence keeps the client's handle. -/
@[simp] theorem State.measure_link (s : State) (start : Word16) (index decimals : Nat) :
    (s.measure start index decimals).link = s.link := by
  rw [State.measure_eq]
  cases bankParse (s.readBytes 41) <;> rfl

/-- The shared sequence uses up one reply. -/
@[simp] theorem State.measure_arrivals (s : State) (start : Word16) (index decimals : Nat) :
    (s.measure start index decimals).arrivals = s.arrivals.drop 1 := by
  rw [State.measure_eq]
  cases bankParse (s.readBytes 41) <;> rfl

/-- Settles O41: each of the two reads returns the frame, and `getPower` leaves the second one to `getCurrent`. -/
theorem endToEndMeasurement : Obligations.EndToEndMeasurement := by
  intro s rest frame hlink hframes
  have hnext : (s.measure 0 0 3).arrivals = bankFrame :: rest := by rw [State.measure_arrivals, hframes]; rfl
  refine ⟨s.measure 0 0 3, (s.measure 0 0 3).measure 0 1 3, s.withClient_opened _ hlink, ?power,
    State.withClient_opened _ _ (by rw [State.measure_link, hlink]), ?current⟩
  case power =>
    rw [State.measure_result_of_bankFrame hframes, bankParse_bankFrame]
    decide +kernel
  case current =>
    rw [State.measure_result_of_bankFrame hnext, bankParse_bankFrame]
    decide +kernel

end Sys2Proof.Machine
end

section
/-! A request and its reply (spec/44_host_sequences.md R160, spec/20_memory.md R64). -/

namespace Sys2Proof.Machine

/-- A well-formed reply to a request for an even count parses to the floats of its payload. -/
theorem parseResponse_of_reply (a byteCount : Byte) {count : Word16} {payload : List Byte}
    (heven : count.toNat % 2 = 0) (hlen : payload.length = 2 * count.toNat) :
    parseResponse (responseFrame a byteCount payload (crc16 ([a, 0x03, byteCount] ++ payload))) a 0x03 count =
      .ok (decF32s payload) := by
  have hwhole : payload.length % 4 = 0 := by omega
  have hexpected : payload.length + 5 = expectedLength count := by rw [expectedLength_eq]; omega
  exact (parseResponse_of_own_checksum a 0x03 byteCount a 0x03 payload count).trans (by simp [hwhole, hexpected])

/-- The bytes that the checksum of a response frame covers. -/
@[simp] theorem frameBody_responseFrame (a byteCount : Byte) (payload : List Byte) (c : Word16) :
    frameBody (responseFrame a byteCount payload c) = [a, 0x03, byteCount] ++ payload :=
  frameBody_append_encU16le _ _

/-- All that the parse of a well-formed reply does (R145). -/
theorem State.parseFrame_of_reply (s : State) (a byteCount : Byte) {count : Word16} {payload : List Byte}
    (heven : count.toNat % 2 = 0) (hlen : payload.length = 2 * count.toNat) :
    s.parseFrame (responseFrame a byteCount payload (crc16 ([a, 0x03, byteCount] ++ payload))) a 0x03 count =
      { s with
        crc := crc16 ([a, 0x03, byteCount] ++ payload), fout := decF32s payload, rv := true, err := 0,
        result := .floats (decF32s payload) } := by
  have hparse := parseResponse_of_reply a byteCount heven hlen
  obtain ⟨hfull, -⟩ := parseResponse_ok hparse
  rw [s.parseFrame_of_outcome hparse, if_pos hfull, State.finishParse_ok, frameBody_responseFrame]

/-- Settles O38: the request leaves its operands for the reply, which parses with them. -/
theorem answeredRequestDeliversFloats : Obligations.AnsweredRequestDeliversFloats := by
  intro s t a byteCount start count payload h heven hlen
  obtain ⟨-, rfl⟩ := s.withClient_next _ _ h
  have hcount : (decF32s payload).length = count.toNat / 2 := by rw [decF32s_length]; omega
  exact ⟨_, congrArg Host.Outcome.next (State.parseFrame_of_reply _ a byteCount heven hlen),
    rfl, hcount, rfl, rfl, rfl, rfl⟩

end Sys2Proof.Machine
end

section
/-! The wire is a log: what a step adds to it (spec/44_host_sequences.md R161, R164). -/

namespace Sys2Proof.Machine

/-- What anything does to the wire: nothing, or the frame it has latched is written. -/
def WireKeptOrSent (s t : State) : Prop :=
  t.wire = s.wire ∨ (t.wire = s.wire ++ [t.txf] ∧ t.txv = true)

/-- What an instruction does to the wire: a request frame and an operation write the frame they have latched. -/
theorem ExecResult.wire {s t : State} (h : ExecResult s t) : WireKeptOrSent s t := by
  cases h with
  | checksum c r => exact .inl rfl
  | built a start count => exact .inl rfl
  | parsed raw ea ef en =>
    obtain ⟨-, -, -, hwire, -⟩ := s.parseFrame_frame raw ea ef en
    exact .inl hwire
  | requested a start count hlink => exact .inr ⟨rfl, rfl⟩
  | measured start index decimals hlink =>
    rw [State.measure_eq]
    cases bankParse (s.readBytes 41) <;> exact .inr ⟨rfl, rfl⟩

/-- What an event does to the wire. -/
theorem EventResult.wire {s t : State} {e : HostEvent} (h : EventResult s e t) : WireKeptOrSent s t := by
  cases h with
  | ran hdec hexec => exact (exec_result hexec).wire
  | register | element | described | reset | arrived | closed => exact .inl rfl
  | opened b => exact .inl (s.openClient_wire b)

/-- Settles O59: a step is idle or one event. -/
theorem stepWritesAtMostOneFrame : Obligations.StepWritesAtMostOneFrame := by
  intro s t h
  obtain ⟨-, rfl⟩ | ⟨e, rest, -, he⟩ := step_result h
  · exact .inl rfl
  · exact he.wire

end Sys2Proof.Machine
end

section
/-! The labelling table (spec/44_host_sequences.md R167, R168). -/

namespace Sys2Proof.Machine

/-- An index of the RegisterMap has its label (R168). -/
theorem describe_of_some {index : Nat} {name : String} {unit : Option String} (s : State)
    (h : registerMap[index]? = some (name, unit)) : describe index s = .next (s.returns (.label name unit)) := by
  rw [describe, h]

/-- An index without an entry is refused (R168, U11). -/
theorem describe_of_none {index : Nat} (s : State) (h : registerMap[index]? = none) :
    describe index s = .refused (.describeRange index) := by
  rw [describe, h]

/-- Settles O50: the printed table is `registerMap`, which has nine entries. -/
theorem registerMapLabels : Obligations.RegisterMapLabels := by
  intro s rest index hin
  rw [step_of_inbox hin]
  exact ⟨fun name unit h => describe_of_some _ h, fun h => describe_of_none _ (List.getElem?_eq_none h)⟩

end Sys2Proof.Machine
end

section
/-! A client without an open Transport (spec/44_host_sequences.md R162, spec/60_exceptions.md R186). -/

namespace Sys2Proof.Machine

/-- Settles O51: the failed construction writes the handle and the result, and what writes to the Transport is guarded
by the handle. -/
theorem connectionErrorIsFatal : Obligations.ConnectionErrorIsFatal := by
  refine ⟨fun s rest hin => by rw [step_of_inbox hin]; rfl, ?_⟩
  rintro i s hlink (hreq | hpseudo)
  · cases i with
    | readRequest a start count => exact s.withClient_unusable _ hlink
    | _ => cases hreq
  · obtain ⟨start, index, decimals, -, hexec⟩ := measures_of_pseudo hpseudo
    rw [hexec, s.withClient_unusable _ hlink]

end Sys2Proof.Machine
end

section
/-! The errors of a parse: which one is reported, and what its entry leaves (spec/60_exceptions.md R185, R187). -/

namespace Sys2Proof.Machine

/-- Settles O23: by the first failing check; each outcome is the one of its own line alone. -/
theorem parseReportsFirstFailure : Obligations.ParseReportsFirstFailure := by
  intro raw ea ef en lengthOk checksumOk echoOk payloadOk
  obtain ⟨(hlen : ¬ lengthOk), he⟩ | ⟨(hlen : lengthOk), (hcrc : ¬ checksumOk), he⟩ |
    ⟨(hlen : lengthOk), (hcrc : checksumOk), hother, he⟩ |
    ⟨(hlen : lengthOk), (hcrc : checksumOk), haddr, hfun, (hpart : ¬ payloadOk), he⟩ |
    ⟨(hlen : lengthOk), (hcrc : checksumOk), haddr, hfun, (hwhole : payloadOk), he⟩ :=
    parseResponse_cases raw ea ef en
  · simp [he, hlen]
  · simp [he, hlen, hcrc]
  · have hecho : ¬ echoOk := not_and_or.mpr hother
    simp [he, hlen, hcrc, hecho]
  · have hecho : echoOk := ⟨haddr, hfun⟩
    simp [he, hlen, hcrc, hecho, hpart]
  · have hecho : echoOk := ⟨haddr, hfun⟩
    simp [he, hlen, hcrc, hecho, hwhole]

/-- R187: LengthMismatch is the failure of the length check, which comes first. -/
theorem parseResponse_eq_lengthMismatch_iff {raw : List Byte} {ea ef : Byte} {en : Word16} :
    parseResponse raw ea ef en = .err .lengthMismatch ↔ raw.length ≠ expectedLength en :=
  (parseReportsFirstFailure raw ea ef en).1

/-- Settles O30: by the error entry; its kind decides its code, and whether the length check let the checksum be taken. -/
theorem errorEntryLeavesNoFloats : Obligations.ErrorEntryLeavesNoFloats := by
  intro s raw ea ef en k h
  have hlength : k = .lengthMismatch ↔ raw.length ≠ expectedLength en := by
    rw [← parseResponse_eq_lengthMismatch_iff (ea := ea) (ef := ef), h, ParseResult.err.injEq]
  obtain ⟨-, herror⟩ := rspParseEffect s raw ea ef en
  exact ⟨_, herror k h, rfl, rfl, rfl, rfl, rfl,
    fun hk => ⟨congrArg errCode hk, if_neg (hlength.mp hk)⟩,
    fun hk => if_pos (not_not.mp (mt hlength.mpr hk)),
    congrArg errCode, congrArg errCode, congrArg errCode⟩

end Sys2Proof.Machine
end

section
/-! Every instruction completes (spec/60_exceptions.md R199, spec/70_reset_and_hazards.md R224). -/

namespace Sys2Proof.Machine

/-- R199: the commands, and a response frame, ask nothing of the state. -/
theorem completes_of_cmd_or_rspv {i : Instr} (s : State) (h : (encode i).format = .cmd ∨ (encode i).format = .rspv) :
    Completes (exec i s) := by
  cases i with
  | crcInit | crcUpdate b | crcCompute m | crcEmit | crcCheck m | reqBuild a start count | rspParse raw ea ef en
  | readResponse a byteCount payload c => exact ⟨_, rfl⟩
  | _ => rcases h with h | h <;> cases h

/-- Settles O35: by the format; what writes to the Transport passes the client's guard when the Transport is open. -/
theorem everyInstructionCompletes : Obligations.EveryInstructionCompletes := by
  refine ⟨fun i s hlink => ?_, fun i s => completes_of_cmd_or_rspv s⟩
  cases hformat : (encode i).format with
  | cmd => exact completes_of_cmd_or_rspv s (.inl hformat)
  | rspv => exact completes_of_cmd_or_rspv s (.inr hformat)
  | req8 =>
    cases i with
    | readRequest a start count => exact ⟨_, s.withClient_opened _ hlink⟩
    | _ => cases hformat
  | pseudo =>
    obtain ⟨start, index, decimals, -, hexec⟩ := measures_of_pseudo hformat
    exact ⟨_, (hexec s).trans (s.withClient_opened _ hlink)⟩

end Sys2Proof.Machine
end

section
/-! Reset, and the read that has no value (spec/70_reset_and_hazards.md R210, R218). -/

namespace Sys2Proof.Machine

/-- An index below `NF` has its element (R218). -/
theorem readFloat_of_lt {index : Nat} {s : State} (h : index < s.fout.length) :
    readFloat index s = .next (s.returns (.float s.fout[index])) := by
  rw [readFloat, List.getElem?_eq_getElem h]

/-- An index at or beyond `NF` has no value: the read is a fault, never zero (R218). -/
theorem readFloat_of_ge {index : Nat} {s : State} (h : s.fout.length ≤ index) :
    readFloat index s = .fault .foutNoValue := by
  rw [readFloat, List.getElem?_eq_none h]

/-- Settles O45: by whether `FOUT` has the element; taking the event leaves `FOUT` as it is. -/
theorem floatReadNeedsElement : Obligations.FloatReadNeedsElement := by
  intro s rest index hin
  rw [step_of_inbox hin, hostEvent]
  exact ⟨readFloat_of_ge (s := s.withInbox rest), readFloat_of_lt (s := s.withInbox rest)⟩

/-- R210: the step of a waiting reset is the reset of the block, whatever state it is taken in. -/
theorem step_of_resetBlock {s : State} {rest : List HostEvent} (hin : s.inbox = .resetBlock :: rest) :
    step s = .next (s.withInbox rest).resetBlock := by
  rw [step_of_inbox hin, hostEvent]

/-- Settles O47: the latches of the state after the reset are those of R34, and the rest is the frame of `resetBlock`. -/
theorem resetEventRestoresBlock : Obligations.ResetEventRestoresBlock := by
  intro s rest hin
  refine ⟨(s.withInbox rest).resetBlock, step_of_resetBlock hin, ?_⟩
  simp

end Sys2Proof.Machine
end
